-- ==== Sys2Proof/Word.lean ====
section
/-! DEFINITION. The word types of the machine (spec/00_scope.md R5, R7): the 8-bit data bus and registers, the 16-bit
address bus, the 32-bit control word. Bits are numbered from 0 at the least significant bit. -/

namespace Sys2Proof

/-- A byte: the width of the data bus and of every selectable register (R5, R10). -/
abbrev Byte := BitVec 8

/-- A 16-bit address: the value of one of the pairs HL, PC, SP, MA on the address bus (R5, R40). -/
abbrev Addr := BitVec 16

/-- A 32-bit control word as the control store holds it (R5, R60). -/
abbrev Word32 := BitVec 32

/-- The 14-bit address of a word of the control store (R70). -/
abbrev RomAddr := BitVec 14

end Sys2Proof
end

