-- ==== Sys2Proof/Machine/Bits.lean ====
section
/-! DEFINITION. Bytes, halves of 16-bit values and bit fields (spec/00_scope.md R7): `a:b` concatenates with `a` in the
more significant position, `v[hi:lo]` is a bit slice. -/

namespace Sys2Proof

/-- The high half of a 16-bit value, `v[15:8]`. -/
def hiByte (v : Addr) : Byte := v.extractLsb' 8 8

/-- The low half of a 16-bit value, `v[7:0]`. -/
def loByte (v : Addr) : Byte := v.extractLsb' 0 8

/-- The pair `hi:lo` (R7, R10). -/
def pairOf (hi lo : Byte) : Addr := hi ++ lo

/-- Byte `k` of the number `w`, byte 0 the least significant. -/
def byteOfNat (w k : Nat) : Byte := BitVec.ofNat 8 (w / 256 ^ k)

/-- The group field `op[7:6]` of an opcode byte (R71). -/
def opGroup (op : Byte) : BitVec 2 := op.extractLsb' 6 2

/-- The middle field `op[5:3]` of an opcode byte: `ddd`, `ooo`, `ccc` or `nnn` (R71). -/
def opMid (op : Byte) : BitVec 3 := op.extractLsb' 3 3

/-- The low field `op[2:0]` of an opcode byte: `sss` or the sub-opcode (R71). -/
def opLow (op : Byte) : BitVec 3 := op.extractLsb' 0 3

/-- The pair field `rp = op[5:4]` of an opcode byte (R71, R74). -/
def opPair (op : Byte) : BitVec 2 := op.extractLsb' 4 2

/-- Bit 3 of an opcode byte, which tells LXI from DAD and INX from DCX (R75). -/
def opBit3 (op : Byte) : Bool := op.getLsbD 3

/-- The 24 conditional opcodes: Rcc, Jcc and Ccc, `11ccc000`, `11ccc010` and `11ccc100` (R75, R184). -/
def isConditional (op : Byte) : Bool := opGroup op == 3 && (opLow op == 0 || opLow op == 2 || opLow op == 4)

end Sys2Proof
end

