-- ==== Sys2Proof/Syntax.lean ====
section
/-! DEFINITION. The syntax of the two levels of instruction (spec/00_scope.md R8): the macro instruction `Instr`, one
constructor per row of spec/opcode_table.json, and the control word with its fields by name (spec/30_encoding.md R60 to
R65). -/

namespace Sys2Proof

/-! ### Operand names of the macro level -/

/-- The registers that `ddd` and `sss` name, M apart (R73). -/
inductive Reg where
  | b | c | d | e | h | l | a
deriving DecidableEq, Repr

/-- The pairs that `rp` names in LXI, INX, DCX and DAD (R74). -/
inductive Pair where
  | bc | de | hl | sp
deriving DecidableEq, Repr

/-- The register pairs of PUSH and POP; PSW has constructors of its own (R74). -/
inductive StackPair where
  | bc | de | hl
deriving DecidableEq, Repr

/-- The pairs that hold an address in LDAX and STAX (R74). -/
inductive IndexPair where
  | bc | de
deriving DecidableEq, Repr

/-- The accumulator operations `ooo` (R77). -/
inductive AccOp where
  | add | adc | sub | sbb | ana | xra | ora | cmp
deriving DecidableEq, Repr

/-- The conditions `ccc` of Rcc, Jcc and Ccc (R76). -/
inductive Cond where
  | nz | z | nc | c | po | pe | p | m
deriving DecidableEq, Repr

/-- The twelve undocumented opcodes, each by its opcode byte (R78). -/
inductive Undoc where
  | op08 | op10 | op18 | op20 | op28 | op30 | op38 | opCB | opD9 | opDD | opED | opFD
deriving DecidableEq, Repr

/-! ### The control word -/

/-- The sixteen selectable registers, in the order of their codes (R10, R62). -/
inductive Sel where
  | b | c | d | e | h | l | m | a | pch | pcl | sph | spl | mah | mal | flags | ir
deriving DecidableEq, Repr

/-- The four address-bus sources, in the order of their codes (R63). -/
inductive AdrSrc where
  | hl | pc | sp | ma
deriving DecidableEq, Repr

/-- The sixteen ALU operations, in the order of their codes (R64). -/
inductive AluOp where
  | byp | zero | incl | inch | decl | dech | rar | rrc | add | adc | sub | sbb | and | xor | or | cmp
deriving DecidableEq, Repr

/-- The eight condition-select values, in the order of their codes (R65). -/
inductive CSel where
  | none | nz | z | nc | c | p | m | rstv
deriving DecidableEq, Repr

/-- A control word by its fields (R60). A field not named is 0, so that `{}` is the zero word (R68). -/
structure ControlWord where
  /-- The register that drives the data bus. -/
  src : Sel := .b
  /-- The register that latches the ALU output. -/
  dst : Sel := .b
  /-- The pair that drives the address bus. -/
  adr : AdrSrc := .hl
  /-- The ALU operation. -/
  alu : AluOp := .byp
  /-- Carry capture. -/
  ccap : Bool := false
  /-- Zero/sign capture. -/
  zscap : Bool := false
  /-- Condition select. -/
  csel : CSel := .none
  /-- Carry set. -/
  cset : Bool := false
  /-- Carry complement. -/
  ccpl : Bool := false
  /-- Register swap. -/
  swap : Bool := false
  /-- Interrupt enable. -/
  ei : Bool := false
  /-- Interrupt disable. -/
  di : Bool := false
  /-- The reserved bits 30:24 (R67). -/
  rsv : BitVec 7 := 0
  /-- Last-cycle marker. -/
  last : Bool := false
deriving DecidableEq, Repr

/-! ### The macro instruction -/

/-- What an opcode byte says: the row of the opcode map with its fields by name (R71, R75). -/
inductive Shape where
  | movRR (dst src : Reg) | movRM (dst : Reg) | movMR (src : Reg) | hlt
  | mviR (dst : Reg) | mviM | lxi (rp : Pair) | lda | lhld | shld | sta
  | ldax (rp : IndexPair) | stax (rp : IndexPair) | xchg
  | accR (op : AccOp) (src : Reg) | accM (op : AccOp) | accI (op : AccOp)
  | inrR (dst : Reg) | inrM | dcrR (dst : Reg) | dcrM | inx (rp : Pair) | dcx (rp : Pair) | dad (rp : Pair) | daa
  | rlc | rrc | ral | rar | cma | stc | cmc
  | jmp | jcc (cc : Cond) | call | ccc (cc : Cond) | ret | rcc (cc : Cond) | rst (n : BitVec 3) | pchl
  | push (rp : StackPair) | pushPsw | pop (rp : StackPair) | popPsw | xthl | sphl
  | inPort | outPort | ei | di | nop | undoc (u : Undoc)
deriving DecidableEq, Repr

/-- A macro instruction: one constructor per opcode value (R75), with its operand where it has one. A `d16` or `a16` is
the 16-bit value whose low byte lies at the lower address (R72). The constructors with an operand stand first, because
Lean compiles no constructor with fields beyond the 244th; each group is in opcode order. -/
inductive Instr where
  | lxiB (d16 : Addr) | mviB (d8 : Byte) | mviC (d8 : Byte) | lxiD (d16 : Addr) | mviD (d8 : Byte)
  | mviE (d8 : Byte) | lxiH (d16 : Addr) | shld (a16 : Addr) | mviH (d8 : Byte) | lhld (a16 : Addr)
  | mviL (d8 : Byte) | lxiSp (d16 : Addr) | sta (a16 : Addr) | mviM (d8 : Byte) | lda (a16 : Addr)
  | mviA (d8 : Byte) | jnz (a16 : Addr) | jmp (a16 : Addr) | cnz (a16 : Addr) | adi (d8 : Byte) | jz (a16 : Addr)
  | cz (a16 : Addr) | call (a16 : Addr) | aci (d8 : Byte) | jnc (a16 : Addr) | outPort (d8 : Byte)
  | cnc (a16 : Addr) | sui (d8 : Byte) | jc (a16 : Addr) | inPort (d8 : Byte) | cc (a16 : Addr) | sbi (d8 : Byte)
  | jpo (a16 : Addr) | cpo (a16 : Addr) | ani (d8 : Byte) | jpe (a16 : Addr) | cpe (a16 : Addr) | xri (d8 : Byte)
  | jp (a16 : Addr) | cp (a16 : Addr) | ori (d8 : Byte) | jm (a16 : Addr) | cm (a16 : Addr) | cpi (d8 : Byte) | nop
  | staxB | inxB | inrB | dcrB | rlc | nop08 | dadB | ldaxB | dcxB | inrC | dcrC | rrc | nop10 | staxD | inxD
  | inrD | dcrD | ral | nop18 | dadD | ldaxD | dcxD | inrE | dcrE | rar | nop20 | inxH | inrH | dcrH | daa | nop28
  | dadH | dcxH | inrL | dcrL | cma | nop30 | inxSp | inrM | dcrM | stc | nop38 | dadSp | dcxSp | inrA | dcrA | cmc
  | movBB | movBC | movBD | movBE | movBH | movBL | movBM | movBA | movCB | movCC | movCD | movCE | movCH | movCL
  | movCM | movCA | movDB | movDC | movDD | movDE | movDH | movDL | movDM | movDA | movEB | movEC | movED | movEE
  | movEH | movEL | movEM | movEA | movHB | movHC | movHD | movHE | movHH | movHL | movHM | movHA | movLB | movLC
  | movLD | movLE | movLH | movLL | movLM | movLA | movMB | movMC | movMD | movME | movMH | movML | hlt | movMA
  | movAB | movAC | movAD | movAE | movAH | movAL | movAM | movAA | addB | addC | addD | addE | addH | addL | addM
  | addA | adcB | adcC | adcD | adcE | adcH | adcL | adcM | adcA | subB | subC | subD | subE | subH | subL | subM
  | subA | sbbB | sbbC | sbbD | sbbE | sbbH | sbbL | sbbM | sbbA | anaB | anaC | anaD | anaE | anaH | anaL | anaM
  | anaA | xraB | xraC | xraD | xraE | xraH | xraL | xraM | xraA | oraB | oraC | oraD | oraE | oraH | oraL | oraM
  | oraA | cmpB | cmpC | cmpD | cmpE | cmpH | cmpL | cmpM | cmpA | rnz | popB | pushB | rst0 | rz | ret | nopCB
  | rst1 | rnc | popD | pushD | rst2 | rc | nopD9 | nopDD | rst3 | rpo | popH | xthl | pushH | rst4 | rpe | pchl
  | xchg | nopED | rst5 | rp | popPsw | di | pushPsw | rst6 | rm | sphl | ei | nopFD | rst7
deriving DecidableEq, Repr

end Sys2Proof
end

