-- ==== Sys2Proof/Machine/Alu.lean ====
section
/-! DEFINITION. The sixteen ALU operations (spec/40_alu_operations.md R100 to R116). -/

namespace Sys2Proof.Machine

/-- A bit as a 9-bit number, for the 9-bit intermediate of the sums. -/
def carry9 (v : Bool) : BitVec 9 := (BitVec.ofBool v).setWidth 9

/-- The low eight bits and bit 8 of a 9-bit intermediate: `out` and `cout` (R109). -/
def split9 (t : BitVec 9) : Byte × Bool := (t.setWidth 8, t.getLsbD 8)

/-- `(out, cout) = ALU(op, a, x, cy, ch)` (R100). -/
def alu (op : AluOp) (a x : Byte) (cy ch : Bool) : Byte × Bool :=
  match op with
  | .byp => (x, false)
  | .zero => (0x00, false)
  | .incl => (x + 1, x == 0xFF)
  | .inch => split9 (x.setWidth 9 + carry9 ch)
  | .decl => (x - 1, x == 0x00)
  | .dech => (x - (BitVec.ofBool ch).setWidth 8, x == 0x00 && ch)
  | .rar => (BitVec.ofBool cy ++ x.extractLsb' 1 7, x.getLsbD 0)
  | .rrc => (BitVec.ofBool (x.getLsbD 0) ++ x.extractLsb' 1 7, x.getLsbD 0)
  | .add => split9 (a.setWidth 9 + x.setWidth 9)
  | .adc => split9 (a.setWidth 9 + x.setWidth 9 + carry9 cy)
  | .sub => (a - x, a.ult x)
  | .sbb => (a - x - (BitVec.ofBool cy).setWidth 8, decide (a.toNat < x.toNat + cy.toNat))
  | .and => (a &&& x, false)
  | .xor => (a ^^^ x, false)
  | .or => (a ||| x, false)
  | .cmp => (a - x, a.ult x)

end Sys2Proof.Machine
end

