-- ==== Sys2Proof/Machine/Fields.lean ====
section
/-! DEFINITION. The codes of the operand fields of an opcode byte (spec/30_encoding.md R73, R74, R76, R77), which are the
Intel 8080's (notes/assumptions/14.md), and what a field's value means in a control word. -/

namespace Sys2Proof

/-- The register of a `ddd` or `sss` field; none for code 6, which is M (R73). -/
def Reg.ofField (f : BitVec 3) : Option Reg :=
  match f.toNat with
  | 0 => some .b | 1 => some .c | 2 => some .d | 3 => some .e | 4 => some .h | 5 => some .l | 6 => none
  | _ => some .a

/-- The pair of an `rp` field in LXI, INX, DCX and DAD (R74). -/
def Pair.ofField (f : BitVec 2) : Pair :=
  match f.toNat with
  | 0 => .bc | 1 => .de | 2 => .hl | _ => .sp

/-- The pair of an `rp` field in PUSH and POP; none for code 3, which is PSW (R74). -/
def StackPair.ofField (f : BitVec 2) : Option StackPair :=
  match f.toNat with
  | 0 => some .bc | 1 => some .de | 2 => some .hl | _ => none

/-- The condition of a `ccc` field (R76). -/
def Cond.ofField (f : BitVec 3) : Cond :=
  match f.toNat with
  | 0 => .nz | 1 => .z | 2 => .nc | 3 => .c | 4 => .po | 5 => .pe | 6 => .p | _ => .m

/-- The operation of an `ooo` field (R77). -/
def AccOp.ofField (f : BitVec 3) : AccOp :=
  match f.toNat with
  | 0 => .add | 1 => .adc | 2 => .sub | 3 => .sbb | 4 => .ana | 5 => .xra | 6 => .ora | _ => .cmp

/-- The condition-select code that the words of a conditional row carry; none for the parity conditions (R76, R187). -/
def Cond.csel : Cond → CSel
  | .nz => .nz | .z => .z | .nc => .nc | .c => .c | .po => .none | .pe => .none | .p => .p | .m => .m

/-- The ALU operation of an accumulator operation: its code is `8 + ooo` (R77). -/
def AccOp.alu : AccOp → AluOp
  | .add => .add | .adc => .adc | .sub => .sub | .sbb => .sbb | .ana => .and | .xra => .xor | .ora => .or | .cmp => .cmp

/-- The select code of a register: the opcode field is copied into the control word unchanged (R73). -/
def Reg.sel : Reg → Sel
  | .b => .b | .c => .c | .d => .d | .e => .e | .h => .h | .l => .l | .a => .a

/-- The high half of a pair as a selectable register (R74). -/
def Pair.hiSel : Pair → Sel
  | .bc => .b | .de => .d | .hl => .h | .sp => .sph

/-- The low half of a pair as a selectable register (R74). -/
def Pair.loSel : Pair → Sel
  | .bc => .c | .de => .e | .hl => .l | .sp => .spl

/-- A register pair of PUSH and POP as a pair (R74). -/
def StackPair.pair : StackPair → Pair
  | .bc => .bc | .de => .de | .hl => .hl

/-- An address pair of LDAX and STAX as a pair (R74). -/
def IndexPair.pair : IndexPair → Pair
  | .bc => .bc | .de => .de

end Sys2Proof
end

