-- ==== Sys2Proof/Config.lean ====
section
/-! DEFINITION. What an implementation fixes (spec/00_scope.md R6): the parameters the spec leaves OPEN, as constants with
no body, so that nothing can be proved of their value, and the one decided parameter that is no code table (RESET_PC).
The decided code tables (CW_LAYOUT, REG_CODE, ADR_CODE, ALU_CODE, CSEL_CODE) are written once, with the spec's default
values, in Sys2Proof/Machine/ControlWord.lean. -/

namespace Sys2Proof.Config

/-- `PARITY_BANK_PO` (R6, R186): the bank that RPO, JPO and CPO run from; `true` is bank 1, "condition satisfied".
OPEN in the spec: a constant of the hardware with no value here (notes/assumptions/3.md). -/
opaque parityBankPO : Bool

/-- `PARITY_BANK_PE` (R6, R186): the bank that RPE, JPE and CPE run from. OPEN in the spec (notes/assumptions/3.md). -/
opaque parityBankPE : Bool

/-- `ROM_HEADER_LINE` (R197): the header line of the emitted text. OPEN in the spec (notes/assumptions/12.md). -/
opaque romHeaderLine : String

/-- `ROM_HEX_UPPERCASE` (R197): the case of the emitted hexadecimal digits. OPEN in the spec (notes/assumptions/12.md). -/
opaque romHexUppercase : Bool

/-- `RESET_PC` (R6, R29, R360): where execution starts after reset. -/
def resetPC : Addr := 0x0000

end Sys2Proof.Config
end

