-- ==== Sys2Proof/Machine/Memory.lean ====
section
/-! DEFINITION. Data memory (spec/20_memory.md R40 to R48): 65,536 bytes, byte addressed, every access one byte. A memory
is the list of its cells in one canonical form: addresses strictly rising, no cell equal to what an unlisted address reads
as. The laws are in Sys2Proof/Laws/Memory.lean. -/

namespace Sys2Proof.Machine

/-- Data memory as address and byte pairs. -/
abbrev Memory := List Host.Cell

/-- What an address that no cell lists reads as. DESIGN CHOICE, unsafe (notes/assumptions/2.md): the spec leaves the
contents of memory to the launch (R26). -/
def Memory.unlisted : Byte := 0x00

/-- The number of bytes of the address space (R40). -/
def Memory.size : Nat := 65536

/-- The byte at a key of the list. -/
def Memory.lookup (m : Memory) (k : Nat) : Byte :=
  match m with
  | [] => Memory.unlisted
  | (j, v) :: rest => if j = k then v else Memory.lookup rest k

/-- `MemRead(a, 1)` (R41, R45). -/
def Memory.read (m : Memory) (a : Addr) : Byte := m.lookup a.toNat

/-- The memory without the cells of a key. -/
def Memory.erase (m : Memory) (k : Nat) : Memory := m.filter fun c => c.1 != k

/-- The memory with a cell put before the first cell of a higher key. -/
def Memory.insert (m : Memory) (k : Nat) (v : Byte) : Memory :=
  match m with
  | [] => [(k, v)]
  | c :: rest => if k < c.1 then (k, v) :: c :: rest else c :: Memory.insert rest k v

/-- `MemWrite(a, 1, v)` (R41, R45). Writing what an unlisted address reads as removes the cell. -/
def Memory.write (m : Memory) (a : Addr) (v : Byte) : Memory :=
  if v = Memory.unlisted then m.erase a.toNat else (m.erase a.toNat).insert a.toNat v

/-- The canonical form: keys strictly rising and within the address space, no cell equal to what an unlisted address
reads as. -/
abbrev Memory.wf (m : Memory) : Prop :=
  m.Pairwise (fun c c' => c.1 < c'.1) ∧ ∀ c ∈ m, c.2 ≠ Memory.unlisted ∧ c.1 < Memory.size

end Sys2Proof.Machine
end

