-- ==== Sys2Proof/Machine/State.lean ====
section
/-! DEFINITION. The state of the machine, complete by spec/10_state.md R27, its value right after reset (R29), and the
reasons a step can stop. -/

namespace Sys2Proof.Machine

/-- The state of the machine (R27). -/
structure State where
  /-- General register B (R11). -/
  b : Byte
  /-- General register C (R11). -/
  c : Byte
  /-- General register D (R11). -/
  d : Byte
  /-- General register E (R11). -/
  e : Byte
  /-- General register H (R11). -/
  h : Byte
  /-- General register L (R11). -/
  l : Byte
  /-- The accumulator A (R11). -/
  a : Byte
  /-- High half of the program counter (R13). -/
  pch : Byte
  /-- Low half of the program counter (R13). -/
  pcl : Byte
  /-- High half of the stack pointer (R14). -/
  sph : Byte
  /-- Low half of the stack pointer (R14). -/
  spl : Byte
  /-- High half of the scratch address register (R15). -/
  mah : Byte
  /-- Low half of the scratch address register (R15). -/
  mal : Byte
  /-- Instruction register (R16). -/
  ir : Byte
  /-- Carry flag CY (R18). -/
  cy : Bool
  /-- Zero flag Z (R19). -/
  zf : Bool
  /-- Sign flag S (R19). -/
  sf : Bool
  /-- Interrupt-enable latch INTE (R21). -/
  inte : Bool
  /-- The hidden carry-chain latch CHAIN (R22). -/
  chain : Bool
  /-- The step counter STEP (R23); 0 marks an instruction boundary. -/
  step : BitVec 5
  /-- Data memory (R26). -/
  mem : Memory
deriving DecidableEq, Repr

/-- What the model reports and the hardware does not (R199): only from a start state with STEP not 0 that no run
reaches, and there the hardware would count on. Both are safe: the model stops where the hardware goes on. -/
inductive Fault where
  /-- `padding-dispatched`: the word read at STEP 1 or later lies after the bank's last step. Raised by
  `clockWith`. Safe. -/
  | paddingDispatched
  /-- `ran-off-bank`: STEP is 31 and the word read has no last-cycle marker. Raised by `clockWith`. Safe. -/
  | ranOffBank
deriving DecidableEq, Repr

/-- Why an instruction has no meaning in the model. Every instruction of the table has one, so nothing raises it. -/
inductive Refusal where
  /-- The meaning of the instruction with this mnemonic is not written. Would be raised by `exec`; safe. -/
  | notModelled (mnemonic : String)
deriving DecidableEq, Repr

/-- What a step of the machine answers. -/
abbrev Result := Host.Outcome State Fault Refusal

/-- The machine right after power-up reset (R29, R360): STEP, PC and INTE as the spec gives them; every other register,
flag and latch at the value named in notes/assumptions/1.md (DESIGN CHOICE, unsafe); memory with nothing listed. -/
def State.reset : State where
  b := 0x00
  c := 0x00
  d := 0x00
  e := 0x00
  h := 0x00
  l := 0x00
  a := 0x00
  pch := hiByte Config.resetPC
  pcl := loByte Config.resetPC
  sph := 0x00
  spl := 0x00
  mah := 0x00
  mal := 0x00
  ir := 0x00
  cy := false
  zf := false
  sf := false
  inte := false
  chain := false
  step := 0
  mem := []

end Sys2Proof.Machine
end

