-- ==== Sys2Proof/Machine/Flags.lean ====
section
/-! DEFINITION. The flags (spec/10_state.md R17 to R19): the zero and sign indications of a result, the flag byte, and the
conditions of Rcc, Jcc and Ccc (spec/43_sequencer_and_rom.md R185). -/

namespace Sys2Proof.Machine

/-- The zero indication of a result (R117). -/
def zeroOf (v : Byte) : Bool := v == 0x00

/-- The sign indication of a result (R117). -/
def signOf (v : Byte) : Bool := v.getLsbD 7

/-- Z and S from a result, together (R19, R128). -/
def State.captureZS (s : State) (v : Byte) : State := { s with zf := zeroOf v, sf := signOf v }

/-- CY written (R18, R127). -/
def State.withCY (s : State) (v : Bool) : State := { s with cy := v }

/-- CHAIN written (R22, R126). -/
def State.withChain (s : State) (v : Bool) : State := { s with chain := v }

/-- INTE written (R21, R132, R133). -/
def State.withInte (s : State) (v : Bool) : State := { s with inte := v }

/-- FLAGS as a source: `S:Z:0:0:0:0:0:CY` (R17). -/
def State.flagByte (s : State) : Byte :=
  BitVec.ofBool s.sf ++ BitVec.ofBool s.zf ++ (0 : BitVec 5) ++ BitVec.ofBool s.cy

/-- FLAGS as a destination: S from bit 7, Z from bit 6, CY from bit 0, the rest ignored (R17). -/
def State.setFlagByte (s : State) (v : Byte) : State :=
  { s with sf := v.getLsbD 7, zf := v.getLsbD 6, cy := v.getLsbD 0 }

/-- `cond(ccc)` (R185): the flag conditions, and for the parity stubs the constant of the hardware (R186). -/
def State.holds (s : State) : Cond → Bool
  | .nz => !s.zf
  | .z => s.zf
  | .nc => !s.cy
  | .c => s.cy
  | .po => Config.parityBankPO
  | .pe => Config.parityBankPE
  | .p => !s.sf
  | .m => s.sf

end Sys2Proof.Machine
end

