-- ==== Sys2Proof/Machine/Operands.lean ====
section
/-! DEFINITION. Reading and writing operands: the pairs (spec/10_state.md R10 to R15), the register and pair operands of
macro instructions (spec/30_encoding.md R73, R74), one byte of memory (spec/20_memory.md R41), and the sixteen selectable
registers of a control word (spec/41_micro_step.md R122, R123, R125). -/

namespace Sys2Proof.Machine

/-! ### Pairs -/

/-- BC = B:C. -/
def State.bc (s : State) : Addr := pairOf s.b s.c
/-- DE = D:E. -/
def State.de (s : State) : Addr := pairOf s.d s.e
/-- HL = H:L. -/
def State.hl (s : State) : Addr := pairOf s.h s.l
/-- PC = PCH:PCL (R13). -/
def State.pc (s : State) : Addr := pairOf s.pch s.pcl
/-- SP = SPH:SPL (R14). -/
def State.sp (s : State) : Addr := pairOf s.sph s.spl
/-- MA = MAH:MAL (R15). -/
def State.ma (s : State) : Addr := pairOf s.mah s.mal

/-- Both halves of BC written. -/
def State.setBC (s : State) (v : Addr) : State := { s with b := hiByte v, c := loByte v }
/-- Both halves of DE written. -/
def State.setDE (s : State) (v : Addr) : State := { s with d := hiByte v, e := loByte v }
/-- Both halves of HL written. -/
def State.setHL (s : State) (v : Addr) : State := { s with h := hiByte v, l := loByte v }
/-- Both halves of PC written. -/
def State.setPC (s : State) (v : Addr) : State := { s with pch := hiByte v, pcl := loByte v }
/-- Both halves of SP written. -/
def State.setSP (s : State) (v : Addr) : State := { s with sph := hiByte v, spl := loByte v }
/-- Both halves of MA written. -/
def State.setMA (s : State) (v : Addr) : State := { s with mah := hiByte v, mal := loByte v }
/-- MAL alone written, where a micro-program uses it as an 8-bit scratch (R15 (c)). -/
def State.setMAL (s : State) (v : Byte) : State := { s with mal := v }

/-! ### Memory -/

/-- `MemRead(a, 1)` (R41). -/
def State.readByte (s : State) (a : Addr) : Byte := s.mem.read a

/-- `MemWrite(a, 1, v)` (R41). -/
def State.writeByte (s : State) (a : Addr) (v : Byte) : State := { s with mem := s.mem.write a v }

/-- The two bytes at an address and the next, low byte first (R42, R44). -/
def State.readWord (s : State) (a : Addr) : Addr := pairOf (s.readByte (a + 1)) (s.readByte a)

/-! ### Operands of macro instructions -/

/-- The value of a register operand. -/
def State.getReg (s : State) : Reg → Byte
  | .b => s.b | .c => s.c | .d => s.d | .e => s.e | .h => s.h | .l => s.l | .a => s.a

/-- A register operand written. -/
def State.setReg (s : State) (r : Reg) (v : Byte) : State :=
  match r with
  | .b => { s with b := v }
  | .c => { s with c := v }
  | .d => { s with d := v }
  | .e => { s with e := v }
  | .h => { s with h := v }
  | .l => { s with l := v }
  | .a => { s with a := v }

/-- The value of a pair operand. -/
def State.getPair (s : State) : Pair → Addr
  | .bc => s.bc | .de => s.de | .hl => s.hl | .sp => s.sp

/-- A pair operand written. -/
def State.setPair (s : State) (p : Pair) (v : Addr) : State :=
  match p with
  | .bc => s.setBC v
  | .de => s.setDE v
  | .hl => s.setHL v
  | .sp => s.setSP v

/-! ### Operands of control words -/

/-- `pair(f.ADR)`: the pair on the address bus (R122). -/
def State.address (s : State) : AdrSrc → Addr
  | .hl => s.hl | .pc => s.pc | .sp => s.sp | .ma => s.ma

/-- `source(s, adr)`: what drives the data bus (R123). -/
def State.source (s : State) (sel : Sel) (adr : Addr) : Byte :=
  match sel with
  | .b => s.b | .c => s.c | .d => s.d | .e => s.e | .h => s.h | .l => s.l | .m => s.readByte adr | .a => s.a
  | .pch => s.pch | .pcl => s.pcl | .sph => s.sph | .spl => s.spl | .mah => s.mah | .mal => s.mal
  | .flags => s.flagByte | .ir => s.ir

/-- The destination latch (R125), compare apart. -/
def State.latch (s : State) (sel : Sel) (adr : Addr) (v : Byte) : State :=
  match sel with
  | .b => { s with b := v } | .c => { s with c := v } | .d => { s with d := v } | .e => { s with e := v }
  | .h => { s with h := v } | .l => { s with l := v } | .m => s.writeByte adr v | .a => { s with a := v }
  | .pch => { s with pch := v } | .pcl => { s with pcl := v } | .sph => { s with sph := v }
  | .spl => { s with spl := v } | .mah => { s with mah := v } | .mal => { s with mal := v }
  | .flags => s.setFlagByte v | .ir => { s with ir := v }

end Sys2Proof.Machine
end

