-- ==== Sys2Proof/Machine/Ops.lean ====
section
/-! DEFINITION. The shared operations that the meanings are built from: the opening of an instruction (spec/43_sequencer_and_rom.md
R196), the stack (spec/20_memory.md R42, spec/10_state.md R14), the restart, which is the nearest thing the machine has to
taking an exception (spec/60_exceptions.md R343), the return (R344), and reset (spec/70_reset_and_hazards.md R360). -/

namespace Sys2Proof.Machine

/-! ### The opening of an instruction -/

/-- After FETCH (R141) of the opcode `op`, at the boundary that ends the instruction: IR holds it, STEP is 0. CHAIN is what
a last step without a carry leaves (R126). -/
def State.fetched (s : State) (op : Byte) : State := { s with ir := op, step := 0, chain := false }

/-- PC advanced by `n` bytes, modulo 65,536; CHAIN tells whether the last advance wrapped (R173, R126). -/
def State.advance (s : State) (n : Nat) : State :=
  let pc' := s.pc + BitVec.ofNat 16 n
  (s.setPC pc').withChain (pc' == 0)

/-- FETCH of `op` and an advance over each of the instruction's `n` bytes (R196), `n` at least 1. -/
def State.opening (s : State) (op : Byte) (n : Nat) : State := (s.fetched op).advance n

/-! ### The accumulator -/

/-- `ACC(op, s)` and `ACCM(op, [P])` (R153, R154): the ALU against A, every flag captured, A written unless comparing. -/
def State.accumulate (s : State) (op : AccOp) (x : Byte) : State :=
  let r := alu op.alu s.a x s.cy s.chain
  let s' := if op = .cmp then s else s.setReg .a r.1
  ((s'.captureZS r.1).withCY r.2).withChain r.2

/-- A one-step rotate of A with carry capture: `ROT_RRC`, `ROT_RAL`, `ROT_RAR` (R161 to R163). -/
def State.rotateA (s : State) (op : AluOp) : State :=
  let r := alu op s.a s.a s.cy s.chain
  ((s.setReg .a r.1).withCY r.2).withChain r.2

/-! ### The stack -/

/-- The high byte stored at SP - 1, then the low byte at SP - 2; SP decreases by 2 (R42, R310). -/
def State.pushWord (s : State) (v : Addr) : State :=
  ((s.writeByte (s.sp - 1) (hiByte v)).writeByte (s.sp - 2) (loByte v)).setSP (s.sp - 2)

/-- The word on top of the stack, its low byte at SP (R42). -/
def State.topWord (s : State) : Addr := s.readWord s.sp

/-- SP increased by 2; CHAIN tells whether the last `SPINC` wrapped (R174, R126). -/
def State.dropWord (s : State) : State :=
  let sp' := s.sp + 2
  (s.setSP sp').withChain (sp' == 0)

/-! ### Restart and return -/

/-- The restart vector of an opcode: `0x00:(op & 0x38)` (R72). -/
def restartVector (op : Byte) : Addr := pairOf 0x00 (op &&& 0x38)

/-- The restart (R343, R300): the address of the next instruction pushed, PC at the vector that the opcode in IR gives. No
flag, no mode and no enable changes. -/
def State.restart (s : State) : State := ((s.pushWord s.pc).setPC (restartVector s.ir)).withChain false

/-- The call (R280): the address of the next instruction pushed, PC at the target, which MA holds as well. -/
def State.callTo (s : State) (target : Addr) : State :=
  (((s.pushWord s.pc).setMA target).setPC target).withChain false

/-- The jump (R270): PC at the target, whose low byte waits in MAL. -/
def State.jumpTo (s : State) (target : Addr) : State :=
  ((s.setMAL (loByte target)).setPC target).withChain false

/-- The return (R290, R344): PC popped, nothing else restored. -/
def State.returnFrom (s : State) : State := (s.setPC s.topWord).dropWord

/-! ### Reset and halt -/

/-- Reset asserted in a running machine (R360): STEP, PC and INTE forced, everything else left as it was. -/
def State.assertReset (s : State) : State := { s.setPC Config.resetPC with step := 0, inte := false }

/-- The machine has halted: STEP is 0 and the byte at PC is HLT (R189). The hardware keeps clocking. -/
def State.halted (s : State) : Bool := s.step == 0 && s.readByte s.pc == 0x76

/-! ### Placing bytes -/

/-- Bytes written to memory from an address upward, wrapping modulo 65,536. -/
def State.placeBytes (s : State) (a : Addr) : List Byte → State
  | [] => s
  | v :: rest => (s.writeByte a v).placeBytes (a + 1) rest

end Sys2Proof.Machine
end

