-- ==== Sys2Proof/Machine/Arithmetic.lean ====
section
/-! DEFINITION. The arithmetic instructions (spec/45_arithmetic.md R230 to R237, spec/45_arithmetic_imm_inc_dad.md R238 to
R253): the accumulator operations on a register, on M and on an immediate byte, INR, DCR, INX, DCX, DAD and the stub DAA.
Each shared operation is the net effect of its rule, scratch left included; `op` is the opcode byte. -/

namespace Sys2Proof.Machine

/-- An accumulator operation on a register (R230 to R237). -/
def accReg (op : Byte) (o : AccOp) (src : Reg) (s : State) : State := (s.opening op 1).accumulate o (s.getReg src)

/-- An accumulator operation on M (R230 to R237). -/
def accMem (op : Byte) (o : AccOp) (s : State) : State := (s.opening op 1).accumulate o (s.readByte s.hl)

/-- An accumulator operation on an immediate byte (R238 to R245): the advance over the byte comes last, and CHAIN is its. -/
def accImm (op : Byte) (o : AccOp) (d8 : Byte) (s : State) : State :=
  ((s.opening op 2).accumulate o d8).withChain (s.opening op 2).chain

/-- INR r (R246): CHAIN tells whether the register wrapped. -/
def incReg (op : Byte) (dst : Reg) (s : State) : State :=
  let v := s.getReg dst + 1
  (((s.opening op 1).setReg dst v).captureZS v).withChain (v == 0x00)

/-- INR M (R247): the new byte waits in MAL. -/
def incMem (op : Byte) (s : State) : State :=
  let v := s.readByte s.hl + 1
  ((((s.opening op 1).setMAL v).captureZS v).writeByte s.hl v).withChain false

/-- DCR r (R248): CHAIN tells whether the register wrapped. -/
def decReg (op : Byte) (dst : Reg) (s : State) : State :=
  let v := s.getReg dst - 1
  (((s.opening op 1).setReg dst v).captureZS v).withChain (v == 0xFF)

/-- DCR M (R249): the new byte waits in MAL. -/
def decMem (op : Byte) (s : State) : State :=
  let v := s.readByte s.hl - 1
  ((((s.opening op 1).setMAL v).captureZS v).writeByte s.hl v).withChain false

/-- INX rp (R250): no flag; CHAIN tells whether the pair wrapped. -/
def incPair (op : Byte) (p : Pair) (s : State) : State :=
  let v := s.getPair p + 1
  ((s.opening op 1).setPair p v).withChain (v == 0x0000)

/-- DCX rp (R251): no flag; CHAIN tells whether the pair wrapped. -/
def decPair (op : Byte) (p : Pair) (s : State) : State :=
  let v := s.getPair p - 1
  ((s.opening op 1).setPair p v).withChain (v == 0xFFFF)

/-- DAD rp (R252): HL plus the pair; CY is bit 16 of the sum, Z and S are kept; A is parked in MAL. -/
def addPair (op : Byte) (p : Pair) (s : State) : State :=
  let sum : BitVec 17 := s.hl.setWidth 17 + (s.getPair p).setWidth 17
  ((((s.opening op 1).setMAL s.a).setHL (sum.setWidth 16)).withCY (sum.getLsbD 16)).withChain false

/-! ### One meaning per instruction -/

/-- `ADD B` (R230). -/
def execAddB (s : State) : Result := .next (accReg 0x80 .add .b s)
/-- `ADD C` (R230). -/
def execAddC (s : State) : Result := .next (accReg 0x81 .add .c s)
/-- `ADD D` (R230). -/
def execAddD (s : State) : Result := .next (accReg 0x82 .add .d s)
/-- `ADD E` (R230). -/
def execAddE (s : State) : Result := .next (accReg 0x83 .add .e s)
/-- `ADD H` (R230). -/
def execAddH (s : State) : Result := .next (accReg 0x84 .add .h s)
/-- `ADD L` (R230). -/
def execAddL (s : State) : Result := .next (accReg 0x85 .add .l s)
/-- `ADD M` (R230). -/
def execAddM (s : State) : Result := .next (accMem 0x86 .add s)
/-- `ADD A` (R230). -/
def execAddA (s : State) : Result := .next (accReg 0x87 .add .a s)
/-- `ADC B` (R231). -/
def execAdcB (s : State) : Result := .next (accReg 0x88 .adc .b s)
/-- `ADC C` (R231). -/
def execAdcC (s : State) : Result := .next (accReg 0x89 .adc .c s)
/-- `ADC D` (R231). -/
def execAdcD (s : State) : Result := .next (accReg 0x8A .adc .d s)
/-- `ADC E` (R231). -/
def execAdcE (s : State) : Result := .next (accReg 0x8B .adc .e s)
/-- `ADC H` (R231). -/
def execAdcH (s : State) : Result := .next (accReg 0x8C .adc .h s)
/-- `ADC L` (R231). -/
def execAdcL (s : State) : Result := .next (accReg 0x8D .adc .l s)
/-- `ADC M` (R231). -/
def execAdcM (s : State) : Result := .next (accMem 0x8E .adc s)
/-- `ADC A` (R231). -/
def execAdcA (s : State) : Result := .next (accReg 0x8F .adc .a s)
/-- `SUB B` (R232). -/
def execSubB (s : State) : Result := .next (accReg 0x90 .sub .b s)
/-- `SUB C` (R232). -/
def execSubC (s : State) : Result := .next (accReg 0x91 .sub .c s)
/-- `SUB D` (R232). -/
def execSubD (s : State) : Result := .next (accReg 0x92 .sub .d s)
/-- `SUB E` (R232). -/
def execSubE (s : State) : Result := .next (accReg 0x93 .sub .e s)
/-- `SUB H` (R232). -/
def execSubH (s : State) : Result := .next (accReg 0x94 .sub .h s)
/-- `SUB L` (R232). -/
def execSubL (s : State) : Result := .next (accReg 0x95 .sub .l s)
/-- `SUB M` (R232). -/
def execSubM (s : State) : Result := .next (accMem 0x96 .sub s)
/-- `SUB A` (R232). -/
def execSubA (s : State) : Result := .next (accReg 0x97 .sub .a s)
/-- `SBB B` (R233). -/
def execSbbB (s : State) : Result := .next (accReg 0x98 .sbb .b s)
/-- `SBB C` (R233). -/
def execSbbC (s : State) : Result := .next (accReg 0x99 .sbb .c s)
/-- `SBB D` (R233). -/
def execSbbD (s : State) : Result := .next (accReg 0x9A .sbb .d s)
/-- `SBB E` (R233). -/
def execSbbE (s : State) : Result := .next (accReg 0x9B .sbb .e s)
/-- `SBB H` (R233). -/
def execSbbH (s : State) : Result := .next (accReg 0x9C .sbb .h s)
/-- `SBB L` (R233). -/
def execSbbL (s : State) : Result := .next (accReg 0x9D .sbb .l s)
/-- `SBB M` (R233). -/
def execSbbM (s : State) : Result := .next (accMem 0x9E .sbb s)
/-- `SBB A` (R233). -/
def execSbbA (s : State) : Result := .next (accReg 0x9F .sbb .a s)
/-- `ANA B` (R234). -/
def execAnaB (s : State) : Result := .next (accReg 0xA0 .ana .b s)
/-- `ANA C` (R234). -/
def execAnaC (s : State) : Result := .next (accReg 0xA1 .ana .c s)
/-- `ANA D` (R234). -/
def execAnaD (s : State) : Result := .next (accReg 0xA2 .ana .d s)
/-- `ANA E` (R234). -/
def execAnaE (s : State) : Result := .next (accReg 0xA3 .ana .e s)
/-- `ANA H` (R234). -/
def execAnaH (s : State) : Result := .next (accReg 0xA4 .ana .h s)
/-- `ANA L` (R234). -/
def execAnaL (s : State) : Result := .next (accReg 0xA5 .ana .l s)
/-- `ANA M` (R234). -/
def execAnaM (s : State) : Result := .next (accMem 0xA6 .ana s)
/-- `ANA A` (R234). -/
def execAnaA (s : State) : Result := .next (accReg 0xA7 .ana .a s)
/-- `XRA B` (R235). -/
def execXraB (s : State) : Result := .next (accReg 0xA8 .xra .b s)
/-- `XRA C` (R235). -/
def execXraC (s : State) : Result := .next (accReg 0xA9 .xra .c s)
/-- `XRA D` (R235). -/
def execXraD (s : State) : Result := .next (accReg 0xAA .xra .d s)
/-- `XRA E` (R235). -/
def execXraE (s : State) : Result := .next (accReg 0xAB .xra .e s)
/-- `XRA H` (R235). -/
def execXraH (s : State) : Result := .next (accReg 0xAC .xra .h s)
/-- `XRA L` (R235). -/
def execXraL (s : State) : Result := .next (accReg 0xAD .xra .l s)
/-- `XRA M` (R235). -/
def execXraM (s : State) : Result := .next (accMem 0xAE .xra s)
/-- `XRA A` (R235). -/
def execXraA (s : State) : Result := .next (accReg 0xAF .xra .a s)
/-- `ORA B` (R236). -/
def execOraB (s : State) : Result := .next (accReg 0xB0 .ora .b s)
/-- `ORA C` (R236). -/
def execOraC (s : State) : Result := .next (accReg 0xB1 .ora .c s)
/-- `ORA D` (R236). -/
def execOraD (s : State) : Result := .next (accReg 0xB2 .ora .d s)
/-- `ORA E` (R236). -/
def execOraE (s : State) : Result := .next (accReg 0xB3 .ora .e s)
/-- `ORA H` (R236). -/
def execOraH (s : State) : Result := .next (accReg 0xB4 .ora .h s)
/-- `ORA L` (R236). -/
def execOraL (s : State) : Result := .next (accReg 0xB5 .ora .l s)
/-- `ORA M` (R236). -/
def execOraM (s : State) : Result := .next (accMem 0xB6 .ora s)
/-- `ORA A` (R236). -/
def execOraA (s : State) : Result := .next (accReg 0xB7 .ora .a s)
/-- `CMP B` (R237). -/
def execCmpB (s : State) : Result := .next (accReg 0xB8 .cmp .b s)
/-- `CMP C` (R237). -/
def execCmpC (s : State) : Result := .next (accReg 0xB9 .cmp .c s)
/-- `CMP D` (R237). -/
def execCmpD (s : State) : Result := .next (accReg 0xBA .cmp .d s)
/-- `CMP E` (R237). -/
def execCmpE (s : State) : Result := .next (accReg 0xBB .cmp .e s)
/-- `CMP H` (R237). -/
def execCmpH (s : State) : Result := .next (accReg 0xBC .cmp .h s)
/-- `CMP L` (R237). -/
def execCmpL (s : State) : Result := .next (accReg 0xBD .cmp .l s)
/-- `CMP M` (R237). -/
def execCmpM (s : State) : Result := .next (accMem 0xBE .cmp s)
/-- `CMP A` (R237). -/
def execCmpA (s : State) : Result := .next (accReg 0xBF .cmp .a s)
/-- `ADI d8` (R238). -/
def execAdi (d8 : Byte) (s : State) : Result := .next (accImm 0xC6 .add d8 s)
/-- `ACI d8` (R239). -/
def execAci (d8 : Byte) (s : State) : Result := .next (accImm 0xCE .adc d8 s)
/-- `SUI d8` (R240). -/
def execSui (d8 : Byte) (s : State) : Result := .next (accImm 0xD6 .sub d8 s)
/-- `SBI d8` (R241). -/
def execSbi (d8 : Byte) (s : State) : Result := .next (accImm 0xDE .sbb d8 s)
/-- `ANI d8` (R242). -/
def execAni (d8 : Byte) (s : State) : Result := .next (accImm 0xE6 .ana d8 s)
/-- `XRI d8` (R243). -/
def execXri (d8 : Byte) (s : State) : Result := .next (accImm 0xEE .xra d8 s)
/-- `ORI d8` (R244). -/
def execOri (d8 : Byte) (s : State) : Result := .next (accImm 0xF6 .ora d8 s)
/-- `CPI d8` (R245). -/
def execCpi (d8 : Byte) (s : State) : Result := .next (accImm 0xFE .cmp d8 s)
/-- `INR B` (R246). -/
def execInrB (s : State) : Result := .next (incReg 0x04 .b s)
/-- `INR C` (R246). -/
def execInrC (s : State) : Result := .next (incReg 0x0C .c s)
/-- `INR D` (R246). -/
def execInrD (s : State) : Result := .next (incReg 0x14 .d s)
/-- `INR E` (R246). -/
def execInrE (s : State) : Result := .next (incReg 0x1C .e s)
/-- `INR H` (R246). -/
def execInrH (s : State) : Result := .next (incReg 0x24 .h s)
/-- `INR L` (R246). -/
def execInrL (s : State) : Result := .next (incReg 0x2C .l s)
/-- `INR A` (R246). -/
def execInrA (s : State) : Result := .next (incReg 0x3C .a s)
/-- `INR M` (R247). -/
def execInrM (s : State) : Result := .next (incMem 0x34 s)
/-- `DCR B` (R248). -/
def execDcrB (s : State) : Result := .next (decReg 0x05 .b s)
/-- `DCR C` (R248). -/
def execDcrC (s : State) : Result := .next (decReg 0x0D .c s)
/-- `DCR D` (R248). -/
def execDcrD (s : State) : Result := .next (decReg 0x15 .d s)
/-- `DCR E` (R248). -/
def execDcrE (s : State) : Result := .next (decReg 0x1D .e s)
/-- `DCR H` (R248). -/
def execDcrH (s : State) : Result := .next (decReg 0x25 .h s)
/-- `DCR L` (R248). -/
def execDcrL (s : State) : Result := .next (decReg 0x2D .l s)
/-- `DCR A` (R248). -/
def execDcrA (s : State) : Result := .next (decReg 0x3D .a s)
/-- `DCR M` (R249). -/
def execDcrM (s : State) : Result := .next (decMem 0x35 s)
/-- `INX B` (R250). -/
def execInxB (s : State) : Result := .next (incPair 0x03 .bc s)
/-- `INX D` (R250). -/
def execInxD (s : State) : Result := .next (incPair 0x13 .de s)
/-- `INX H` (R250). -/
def execInxH (s : State) : Result := .next (incPair 0x23 .hl s)
/-- `INX SP` (R250). -/
def execInxSp (s : State) : Result := .next (incPair 0x33 .sp s)
/-- `DCX B` (R251). -/
def execDcxB (s : State) : Result := .next (decPair 0x0B .bc s)
/-- `DCX D` (R251). -/
def execDcxD (s : State) : Result := .next (decPair 0x1B .de s)
/-- `DCX H` (R251). -/
def execDcxH (s : State) : Result := .next (decPair 0x2B .hl s)
/-- `DCX SP` (R251). -/
def execDcxSp (s : State) : Result := .next (decPair 0x3B .sp s)
/-- `DAD B` (R252). -/
def execDadB (s : State) : Result := .next (addPair 0x09 .bc s)
/-- `DAD D` (R252). -/
def execDadD (s : State) : Result := .next (addPair 0x19 .de s)
/-- `DAD H` (R252). -/
def execDadH (s : State) : Result := .next (addPair 0x29 .hl s)
/-- `DAD SP` (R252). -/
def execDadSp (s : State) : Result := .next (addPair 0x39 .sp s)

end Sys2Proof.Machine
end

