-- ==== Sys2Proof/Machine/Branch.lean ====
section
/-! DEFINITION. The control-transfer instructions (spec/47_branch.md R270 to R279, spec/47_branch_call.md R280 to R289,
spec/47_branch_return.md R290 to R301). Each shared operation is the net effect of its rule, scratch left included; `op` is
the opcode byte. A condition is evaluated on the flags the instruction finds (R185); for the parity stubs it is the
constant of the hardware (R186). -/

namespace Sys2Proof.Machine

/-- JMP a16 (R270). -/
def jumpAlways (op : Byte) (a16 : Addr) (s : State) : State := (s.fetched op).jumpTo a16

/-- Jcc a16 (R271). -/
def jumpIf (op : Byte) (cc : Cond) (a16 : Addr) (s : State) : State :=
  if s.holds cc then (s.fetched op).jumpTo a16 else s.opening op 3

/-- CALL a16 (R280). -/
def callAlways (op : Byte) (a16 : Addr) (s : State) : State := (s.opening op 3).callTo a16

/-- Ccc a16 (R281). -/
def callIf (op : Byte) (cc : Cond) (a16 : Addr) (s : State) : State :=
  if s.holds cc then (s.opening op 3).callTo a16 else s.opening op 3

/-- RET (R290). -/
def returnAlways (op : Byte) (s : State) : State := (s.fetched op).returnFrom

/-- Rcc (R291). -/
def returnIf (op : Byte) (cc : Cond) (s : State) : State :=
  if s.holds cc then (s.fetched op).returnFrom else s.opening op 1

/-- RST n (R300): the vector comes from the opcode that FETCH put into IR. -/
def restartAt (op : Byte) (s : State) : State := (s.opening op 1).restart

/-- PCHL (R301). -/
def jumpToHL (op : Byte) (s : State) : State := (s.fetched op).setPC s.hl

/-! ### One meaning per instruction -/

/-- `JMP a16` (R270). -/
def execJmp (a16 : Addr) (s : State) : Result := .next (jumpAlways 0xC3 a16 s)
/-- `JNZ a16` (R272). -/
def execJnz (a16 : Addr) (s : State) : Result := .next (jumpIf 0xC2 .nz a16 s)
/-- `JZ a16` (R273). -/
def execJz (a16 : Addr) (s : State) : Result := .next (jumpIf 0xCA .z a16 s)
/-- `JNC a16` (R274). -/
def execJnc (a16 : Addr) (s : State) : Result := .next (jumpIf 0xD2 .nc a16 s)
/-- `JC a16` (R275). -/
def execJc (a16 : Addr) (s : State) : Result := .next (jumpIf 0xDA .c a16 s)
/-- `JPO a16` (R276). -/
def execJpo (a16 : Addr) (s : State) : Result := .next (jumpIf 0xE2 .po a16 s)
/-- `JPE a16` (R277). -/
def execJpe (a16 : Addr) (s : State) : Result := .next (jumpIf 0xEA .pe a16 s)
/-- `JP a16` (R278). -/
def execJp (a16 : Addr) (s : State) : Result := .next (jumpIf 0xF2 .p a16 s)
/-- `JM a16` (R279). -/
def execJm (a16 : Addr) (s : State) : Result := .next (jumpIf 0xFA .m a16 s)
/-- `CALL a16` (R280). -/
def execCall (a16 : Addr) (s : State) : Result := .next (callAlways 0xCD a16 s)
/-- `CNZ a16` (R282). -/
def execCnz (a16 : Addr) (s : State) : Result := .next (callIf 0xC4 .nz a16 s)
/-- `CZ a16` (R283). -/
def execCz (a16 : Addr) (s : State) : Result := .next (callIf 0xCC .z a16 s)
/-- `CNC a16` (R284). -/
def execCnc (a16 : Addr) (s : State) : Result := .next (callIf 0xD4 .nc a16 s)
/-- `CC a16` (R285). -/
def execCc (a16 : Addr) (s : State) : Result := .next (callIf 0xDC .c a16 s)
/-- `CPO a16` (R286). -/
def execCpo (a16 : Addr) (s : State) : Result := .next (callIf 0xE4 .po a16 s)
/-- `CPE a16` (R287). -/
def execCpe (a16 : Addr) (s : State) : Result := .next (callIf 0xEC .pe a16 s)
/-- `CP a16` (R288). -/
def execCp (a16 : Addr) (s : State) : Result := .next (callIf 0xF4 .p a16 s)
/-- `CM a16` (R289). -/
def execCm (a16 : Addr) (s : State) : Result := .next (callIf 0xFC .m a16 s)
/-- `RET` (R290). -/
def execRet (s : State) : Result := .next (returnAlways 0xC9 s)
/-- `RNZ` (R292). -/
def execRnz (s : State) : Result := .next (returnIf 0xC0 .nz s)
/-- `RZ` (R293). -/
def execRz (s : State) : Result := .next (returnIf 0xC8 .z s)
/-- `RNC` (R294). -/
def execRnc (s : State) : Result := .next (returnIf 0xD0 .nc s)
/-- `RC` (R295). -/
def execRc (s : State) : Result := .next (returnIf 0xD8 .c s)
/-- `RPO` (R296). -/
def execRpo (s : State) : Result := .next (returnIf 0xE0 .po s)
/-- `RPE` (R297). -/
def execRpe (s : State) : Result := .next (returnIf 0xE8 .pe s)
/-- `RP` (R298). -/
def execRp (s : State) : Result := .next (returnIf 0xF0 .p s)
/-- `RM` (R299). -/
def execRm (s : State) : Result := .next (returnIf 0xF8 .m s)
/-- `RST 0` (R300). -/
def execRst0 (s : State) : Result := .next (restartAt 0xC7 s)
/-- `RST 1` (R300). -/
def execRst1 (s : State) : Result := .next (restartAt 0xCF s)
/-- `RST 2` (R300). -/
def execRst2 (s : State) : Result := .next (restartAt 0xD7 s)
/-- `RST 3` (R300). -/
def execRst3 (s : State) : Result := .next (restartAt 0xDF s)
/-- `RST 4` (R300). -/
def execRst4 (s : State) : Result := .next (restartAt 0xE7 s)
/-- `RST 5` (R300). -/
def execRst5 (s : State) : Result := .next (restartAt 0xEF s)
/-- `RST 6` (R300). -/
def execRst6 (s : State) : Result := .next (restartAt 0xF7 s)
/-- `RST 7` (R300). -/
def execRst7 (s : State) : Result := .next (restartAt 0xFF s)
/-- `PCHL` (R301). -/
def execPchl (s : State) : Result := .next (jumpToHL 0xE9 s)

end Sys2Proof.Machine
end

