-- ==== Sys2Proof/Machine/DataTransfer.lean ====
section
/-! DEFINITION. The data-transfer instructions (spec/44_data_transfer.md R200 to R212): MOV, MVI, LXI, LDA, LHLD, SHLD, STA,
LDAX, STAX, XCHG. Each shared operation is the net effect of its rule, scratch left included; `op` is the opcode byte. -/

namespace Sys2Proof.Machine

/-- MOV r1,r2 (R200). -/
def moveReg (op : Byte) (dst src : Reg) (s : State) : State :=
  ((s.opening op 1).setReg dst (s.getReg src)).withChain false

/-- MOV r,M (R201). -/
def loadReg (op : Byte) (dst : Reg) (s : State) : State :=
  ((s.opening op 1).setReg dst (s.readByte s.hl)).withChain false

/-- MOV M,r (R202). -/
def storeReg (op : Byte) (src : Reg) (s : State) : State :=
  ((s.opening op 1).writeByte s.hl (s.getReg src)).withChain false

/-- MVI r,d8 (R203). -/
def loadRegImm (op : Byte) (dst : Reg) (d8 : Byte) (s : State) : State := (s.opening op 2).setReg dst d8

/-- MVI M,d8 (R204): the byte waits in MAL. -/
def storeImm (op : Byte) (d8 : Byte) (s : State) : State :=
  (((s.opening op 2).setMAL d8).writeByte s.hl d8).withChain false

/-- LXI rp,d16 (R205). -/
def loadPairImm (op : Byte) (p : Pair) (d16 : Addr) (s : State) : State := (s.opening op 3).setPair p d16

/-- LDA a16 (R206). -/
def loadDirect (op : Byte) (a16 : Addr) (s : State) : State :=
  (((s.opening op 3).setMA a16).setReg .a (s.readByte a16)).withChain false

/-- LHLD a16 (R207). -/
def loadPairDirect (op : Byte) (a16 : Addr) (s : State) : State :=
  (((s.opening op 3).setMA (a16 + 1)).setHL (s.readWord a16)).withChain false

/-- SHLD a16 (R208): L at the address, then H at the next. -/
def storePairDirect (op : Byte) (a16 : Addr) (s : State) : State :=
  ((((s.opening op 3).setMA (a16 + 1)).writeByte a16 s.l).writeByte (a16 + 1) s.h).withChain false

/-- STA a16 (R209). -/
def storeDirect (op : Byte) (a16 : Addr) (s : State) : State :=
  (((s.opening op 3).setMA a16).writeByte a16 s.a).withChain false

/-- LDAX rp (R210): the address goes through MA. -/
def loadIndexed (op : Byte) (p : IndexPair) (s : State) : State :=
  (((s.opening op 1).setMA (s.getPair p.pair)).setReg .a (s.readByte (s.getPair p.pair))).withChain false

/-- STAX rp (R211): the address goes through MA. -/
def storeIndexed (op : Byte) (p : IndexPair) (s : State) : State :=
  (((s.opening op 1).setMA (s.getPair p.pair)).writeByte (s.getPair p.pair) s.a).withChain false

/-- XCHG (R212). -/
def exchangePairs (op : Byte) (s : State) : State :=
  (((s.opening op 1).setHL s.de).setDE s.hl).withChain false

/-! ### One meaning per instruction -/

/-- `MOV B,B` (R200). -/
def execMovBB (s : State) : Result := .next (moveReg 0x40 .b .b s)
/-- `MOV B,C` (R200). -/
def execMovBC (s : State) : Result := .next (moveReg 0x41 .b .c s)
/-- `MOV B,D` (R200). -/
def execMovBD (s : State) : Result := .next (moveReg 0x42 .b .d s)
/-- `MOV B,E` (R200). -/
def execMovBE (s : State) : Result := .next (moveReg 0x43 .b .e s)
/-- `MOV B,H` (R200). -/
def execMovBH (s : State) : Result := .next (moveReg 0x44 .b .h s)
/-- `MOV B,L` (R200). -/
def execMovBL (s : State) : Result := .next (moveReg 0x45 .b .l s)
/-- `MOV B,A` (R200). -/
def execMovBA (s : State) : Result := .next (moveReg 0x47 .b .a s)
/-- `MOV C,B` (R200). -/
def execMovCB (s : State) : Result := .next (moveReg 0x48 .c .b s)
/-- `MOV C,C` (R200). -/
def execMovCC (s : State) : Result := .next (moveReg 0x49 .c .c s)
/-- `MOV C,D` (R200). -/
def execMovCD (s : State) : Result := .next (moveReg 0x4A .c .d s)
/-- `MOV C,E` (R200). -/
def execMovCE (s : State) : Result := .next (moveReg 0x4B .c .e s)
/-- `MOV C,H` (R200). -/
def execMovCH (s : State) : Result := .next (moveReg 0x4C .c .h s)
/-- `MOV C,L` (R200). -/
def execMovCL (s : State) : Result := .next (moveReg 0x4D .c .l s)
/-- `MOV C,A` (R200). -/
def execMovCA (s : State) : Result := .next (moveReg 0x4F .c .a s)
/-- `MOV D,B` (R200). -/
def execMovDB (s : State) : Result := .next (moveReg 0x50 .d .b s)
/-- `MOV D,C` (R200). -/
def execMovDC (s : State) : Result := .next (moveReg 0x51 .d .c s)
/-- `MOV D,D` (R200). -/
def execMovDD (s : State) : Result := .next (moveReg 0x52 .d .d s)
/-- `MOV D,E` (R200). -/
def execMovDE (s : State) : Result := .next (moveReg 0x53 .d .e s)
/-- `MOV D,H` (R200). -/
def execMovDH (s : State) : Result := .next (moveReg 0x54 .d .h s)
/-- `MOV D,L` (R200). -/
def execMovDL (s : State) : Result := .next (moveReg 0x55 .d .l s)
/-- `MOV D,A` (R200). -/
def execMovDA (s : State) : Result := .next (moveReg 0x57 .d .a s)
/-- `MOV E,B` (R200). -/
def execMovEB (s : State) : Result := .next (moveReg 0x58 .e .b s)
/-- `MOV E,C` (R200). -/
def execMovEC (s : State) : Result := .next (moveReg 0x59 .e .c s)
/-- `MOV E,D` (R200). -/
def execMovED (s : State) : Result := .next (moveReg 0x5A .e .d s)
/-- `MOV E,E` (R200). -/
def execMovEE (s : State) : Result := .next (moveReg 0x5B .e .e s)
/-- `MOV E,H` (R200). -/
def execMovEH (s : State) : Result := .next (moveReg 0x5C .e .h s)
/-- `MOV E,L` (R200). -/
def execMovEL (s : State) : Result := .next (moveReg 0x5D .e .l s)
/-- `MOV E,A` (R200). -/
def execMovEA (s : State) : Result := .next (moveReg 0x5F .e .a s)
/-- `MOV H,B` (R200). -/
def execMovHB (s : State) : Result := .next (moveReg 0x60 .h .b s)
/-- `MOV H,C` (R200). -/
def execMovHC (s : State) : Result := .next (moveReg 0x61 .h .c s)
/-- `MOV H,D` (R200). -/
def execMovHD (s : State) : Result := .next (moveReg 0x62 .h .d s)
/-- `MOV H,E` (R200). -/
def execMovHE (s : State) : Result := .next (moveReg 0x63 .h .e s)
/-- `MOV H,H` (R200). -/
def execMovHH (s : State) : Result := .next (moveReg 0x64 .h .h s)
/-- `MOV H,L` (R200). -/
def execMovHL (s : State) : Result := .next (moveReg 0x65 .h .l s)
/-- `MOV H,A` (R200). -/
def execMovHA (s : State) : Result := .next (moveReg 0x67 .h .a s)
/-- `MOV L,B` (R200). -/
def execMovLB (s : State) : Result := .next (moveReg 0x68 .l .b s)
/-- `MOV L,C` (R200). -/
def execMovLC (s : State) : Result := .next (moveReg 0x69 .l .c s)
/-- `MOV L,D` (R200). -/
def execMovLD (s : State) : Result := .next (moveReg 0x6A .l .d s)
/-- `MOV L,E` (R200). -/
def execMovLE (s : State) : Result := .next (moveReg 0x6B .l .e s)
/-- `MOV L,H` (R200). -/
def execMovLH (s : State) : Result := .next (moveReg 0x6C .l .h s)
/-- `MOV L,L` (R200). -/
def execMovLL (s : State) : Result := .next (moveReg 0x6D .l .l s)
/-- `MOV L,A` (R200). -/
def execMovLA (s : State) : Result := .next (moveReg 0x6F .l .a s)
/-- `MOV A,B` (R200). -/
def execMovAB (s : State) : Result := .next (moveReg 0x78 .a .b s)
/-- `MOV A,C` (R200). -/
def execMovAC (s : State) : Result := .next (moveReg 0x79 .a .c s)
/-- `MOV A,D` (R200). -/
def execMovAD (s : State) : Result := .next (moveReg 0x7A .a .d s)
/-- `MOV A,E` (R200). -/
def execMovAE (s : State) : Result := .next (moveReg 0x7B .a .e s)
/-- `MOV A,H` (R200). -/
def execMovAH (s : State) : Result := .next (moveReg 0x7C .a .h s)
/-- `MOV A,L` (R200). -/
def execMovAL (s : State) : Result := .next (moveReg 0x7D .a .l s)
/-- `MOV A,A` (R200). -/
def execMovAA (s : State) : Result := .next (moveReg 0x7F .a .a s)
/-- `MOV B,M` (R201). -/
def execMovBM (s : State) : Result := .next (loadReg 0x46 .b s)
/-- `MOV C,M` (R201). -/
def execMovCM (s : State) : Result := .next (loadReg 0x4E .c s)
/-- `MOV D,M` (R201). -/
def execMovDM (s : State) : Result := .next (loadReg 0x56 .d s)
/-- `MOV E,M` (R201). -/
def execMovEM (s : State) : Result := .next (loadReg 0x5E .e s)
/-- `MOV H,M` (R201). -/
def execMovHM (s : State) : Result := .next (loadReg 0x66 .h s)
/-- `MOV L,M` (R201). -/
def execMovLM (s : State) : Result := .next (loadReg 0x6E .l s)
/-- `MOV A,M` (R201). -/
def execMovAM (s : State) : Result := .next (loadReg 0x7E .a s)
/-- `MOV M,B` (R202). -/
def execMovMB (s : State) : Result := .next (storeReg 0x70 .b s)
/-- `MOV M,C` (R202). -/
def execMovMC (s : State) : Result := .next (storeReg 0x71 .c s)
/-- `MOV M,D` (R202). -/
def execMovMD (s : State) : Result := .next (storeReg 0x72 .d s)
/-- `MOV M,E` (R202). -/
def execMovME (s : State) : Result := .next (storeReg 0x73 .e s)
/-- `MOV M,H` (R202). -/
def execMovMH (s : State) : Result := .next (storeReg 0x74 .h s)
/-- `MOV M,L` (R202). -/
def execMovML (s : State) : Result := .next (storeReg 0x75 .l s)
/-- `MOV M,A` (R202). -/
def execMovMA (s : State) : Result := .next (storeReg 0x77 .a s)
/-- `MVI B,d8` (R203). -/
def execMviB (d8 : Byte) (s : State) : Result := .next (loadRegImm 0x06 .b d8 s)
/-- `MVI C,d8` (R203). -/
def execMviC (d8 : Byte) (s : State) : Result := .next (loadRegImm 0x0E .c d8 s)
/-- `MVI D,d8` (R203). -/
def execMviD (d8 : Byte) (s : State) : Result := .next (loadRegImm 0x16 .d d8 s)
/-- `MVI E,d8` (R203). -/
def execMviE (d8 : Byte) (s : State) : Result := .next (loadRegImm 0x1E .e d8 s)
/-- `MVI H,d8` (R203). -/
def execMviH (d8 : Byte) (s : State) : Result := .next (loadRegImm 0x26 .h d8 s)
/-- `MVI L,d8` (R203). -/
def execMviL (d8 : Byte) (s : State) : Result := .next (loadRegImm 0x2E .l d8 s)
/-- `MVI A,d8` (R203). -/
def execMviA (d8 : Byte) (s : State) : Result := .next (loadRegImm 0x3E .a d8 s)
/-- `MVI M,d8` (R204). -/
def execMviM (d8 : Byte) (s : State) : Result := .next (storeImm 0x36 d8 s)
/-- `LXI B,d16` (R205). -/
def execLxiB (d16 : Addr) (s : State) : Result := .next (loadPairImm 0x01 .bc d16 s)
/-- `LXI D,d16` (R205). -/
def execLxiD (d16 : Addr) (s : State) : Result := .next (loadPairImm 0x11 .de d16 s)
/-- `LXI H,d16` (R205). -/
def execLxiH (d16 : Addr) (s : State) : Result := .next (loadPairImm 0x21 .hl d16 s)
/-- `LXI SP,d16` (R205). -/
def execLxiSp (d16 : Addr) (s : State) : Result := .next (loadPairImm 0x31 .sp d16 s)
/-- `LDA a16` (R206). -/
def execLda (a16 : Addr) (s : State) : Result := .next (loadDirect 0x3A a16 s)
/-- `LHLD a16` (R207). -/
def execLhld (a16 : Addr) (s : State) : Result := .next (loadPairDirect 0x2A a16 s)
/-- `SHLD a16` (R208). -/
def execShld (a16 : Addr) (s : State) : Result := .next (storePairDirect 0x22 a16 s)
/-- `STA a16` (R209). -/
def execSta (a16 : Addr) (s : State) : Result := .next (storeDirect 0x32 a16 s)
/-- `LDAX B` (R210). -/
def execLdaxB (s : State) : Result := .next (loadIndexed 0x0A .bc s)
/-- `LDAX D` (R210). -/
def execLdaxD (s : State) : Result := .next (loadIndexed 0x1A .de s)
/-- `STAX B` (R211). -/
def execStaxB (s : State) : Result := .next (storeIndexed 0x02 .bc s)
/-- `STAX D` (R211). -/
def execStaxD (s : State) : Result := .next (storeIndexed 0x12 .de s)
/-- `XCHG` (R212). -/
def execXchg (s : State) : Result := .next (exchangePairs 0xEB s)

end Sys2Proof.Machine
end

