-- ==== Sys2Proof/Machine/Rotate.lean ====
section
/-! DEFINITION. The rotate, complement and carry instructions (spec/46_logic_rotate.md R260 to R266). Each shared operation
is the net effect of its rule, scratch left included; `op` is the opcode byte. -/

namespace Sys2Proof.Machine

/-- RLC (R260): bit 7 goes to CY and to bit 0; the second step clears CHAIN. -/
def rotateLeft (op : Byte) (s : State) : State :=
  (((s.opening op 1).setReg .a (s.a.extractLsb' 0 7 ++ BitVec.ofBool (s.a.getLsbD 7))).withCY (s.a.getLsbD 7)).withChain false

/-- RRC, RAL and RAR (R261 to R263): one ALU step on A; RAL is the sum of A, A and CY. -/
def rotate (op : Byte) (o : AluOp) (s : State) : State := (s.opening op 1).rotateA o

/-- CMA (R264): no flag; MAL is left all ones. -/
def complementA (op : Byte) (s : State) : State := (((s.opening op 1).setMAL 0xFF).setReg .a (~~~s.a)).withChain false

/-- STC (R265). -/
def setCarry (op : Byte) (s : State) : State := ((s.opening op 1).withCY true).withChain false

/-- CMC (R266). -/
def complementCarry (op : Byte) (s : State) : State := ((s.opening op 1).withCY (!s.cy)).withChain false

/-! ### One meaning per instruction -/

/-- `RLC` (R260). -/
def execRlc (s : State) : Result := .next (rotateLeft 0x07 s)
/-- `RRC` (R261). -/
def execRrc (s : State) : Result := .next (rotate 0x0F .rrc s)
/-- `RAL` (R262). -/
def execRal (s : State) : Result := .next (rotate 0x17 .adc s)
/-- `RAR` (R263). -/
def execRar (s : State) : Result := .next (rotate 0x1F .rar s)
/-- `CMA` (R264). -/
def execCma (s : State) : Result := .next (complementA 0x2F s)
/-- `STC` (R265). -/
def execStc (s : State) : Result := .next (setCarry 0x37 s)
/-- `CMC` (R266). -/
def execCmc (s : State) : Result := .next (complementCarry 0x3F s)

end Sys2Proof.Machine
end

