-- ==== Sys2Proof/Machine/StackControl.lean ====
section
/-! DEFINITION. The stack, input/output and machine-control instructions (spec/48_stack_io_control.md R310 to R322), and the
stub DAA (spec/45_arithmetic_imm_inc_dad.md R253). Each shared operation is the net effect of its rule, scratch left
included; `op` is the opcode byte. -/

namespace Sys2Proof.Machine

/-- PUSH rp (R310). -/
def pushPair (op : Byte) (p : StackPair) (s : State) : State :=
  ((s.opening op 1).pushWord (s.getPair p.pair)).withChain false

/-- PUSH PSW (R311): A is the high byte, the flag byte the low one. -/
def pushStatus (op : Byte) (s : State) : State := ((s.opening op 1).pushWord (pairOf s.a s.flagByte)).withChain false

/-- POP rp (R312). -/
def popPair (op : Byte) (p : StackPair) (s : State) : State := ((s.opening op 1).setPair p.pair s.topWord).dropWord

/-- POP PSW (R313): the flags from the low byte, A from the high one. -/
def popStatus (op : Byte) (s : State) : State :=
  (((s.opening op 1).setFlagByte (loByte s.topWord)).setReg .a (hiByte s.topWord)).dropWord

/-- XTHL (R314): the new H is left in MAL; CHAIN tells whether the closing decrement of SP borrowed. -/
def exchangeTop (op : Byte) (s : State) : State :=
  (((((s.opening op 1).writeByte s.sp s.l).writeByte (s.sp + 1) s.h).setHL s.topWord).setMAL (hiByte s.topWord)).withChain
    (s.sp == 0xFFFF)

/-- SPHL (R315). -/
def loadSP (op : Byte) (s : State) : State := ((s.opening op 1).setSP s.hl).withChain false

/-- IN and OUT (R316, R317), the stubs: the port byte is skipped, nothing is transferred (notes/assumptions/4.md). -/
def skipPort (op : Byte) (s : State) : State := s.opening op 2

/-- EI and DI (R318, R319). -/
def setEnable (op : Byte) (v : Bool) (s : State) : State := ((s.opening op 1).withInte v).withChain false

/-- HLT (R320): PC stays at the HLT, which is fetched for ever (notes/assumptions/11.md). -/
def halt (op : Byte) (s : State) : State := s.fetched op

/-- NOP (R321), and the stubs that run its micro-program: DAA (R253) and the undocumented opcodes (R322)
(notes/assumptions/4.md). -/
def noEffect (op : Byte) (s : State) : State := s.opening op 1

/-! ### One meaning per instruction -/

/-- `DAA` (R253). -/
def execDaa (s : State) : Result := .next (noEffect 0x27 s)
/-- `PUSH B` (R310). -/
def execPushB (s : State) : Result := .next (pushPair 0xC5 .bc s)
/-- `PUSH D` (R310). -/
def execPushD (s : State) : Result := .next (pushPair 0xD5 .de s)
/-- `PUSH H` (R310). -/
def execPushH (s : State) : Result := .next (pushPair 0xE5 .hl s)
/-- `PUSH PSW` (R311). -/
def execPushPsw (s : State) : Result := .next (pushStatus 0xF5 s)
/-- `POP B` (R312). -/
def execPopB (s : State) : Result := .next (popPair 0xC1 .bc s)
/-- `POP D` (R312). -/
def execPopD (s : State) : Result := .next (popPair 0xD1 .de s)
/-- `POP H` (R312). -/
def execPopH (s : State) : Result := .next (popPair 0xE1 .hl s)
/-- `POP PSW` (R313). -/
def execPopPsw (s : State) : Result := .next (popStatus 0xF1 s)
/-- `XTHL` (R314). -/
def execXthl (s : State) : Result := .next (exchangeTop 0xE3 s)
/-- `SPHL` (R315). -/
def execSphl (s : State) : Result := .next (loadSP 0xF9 s)
/-- `IN d8` (R316). -/
def execInPort (_d8 : Byte) (s : State) : Result := .next (skipPort 0xDB s)
/-- `OUT d8` (R317). -/
def execOutPort (_d8 : Byte) (s : State) : Result := .next (skipPort 0xD3 s)
/-- `EI` (R318). -/
def execEi (s : State) : Result := .next (setEnable 0xFB true s)
/-- `DI` (R319). -/
def execDi (s : State) : Result := .next (setEnable 0xF3 false s)
/-- `HLT` (R320). -/
def execHlt (s : State) : Result := .next (halt 0x76 s)
/-- `NOP` (R321). -/
def execNop (s : State) : Result := .next (noEffect 0x00 s)
/-- `*NOP 0x08` (R322). -/
def execNop08 (s : State) : Result := .next (noEffect 0x08 s)
/-- `*NOP 0x10` (R322). -/
def execNop10 (s : State) : Result := .next (noEffect 0x10 s)
/-- `*NOP 0x18` (R322). -/
def execNop18 (s : State) : Result := .next (noEffect 0x18 s)
/-- `*NOP 0x20` (R322). -/
def execNop20 (s : State) : Result := .next (noEffect 0x20 s)
/-- `*NOP 0x28` (R322). -/
def execNop28 (s : State) : Result := .next (noEffect 0x28 s)
/-- `*NOP 0x30` (R322). -/
def execNop30 (s : State) : Result := .next (noEffect 0x30 s)
/-- `*NOP 0x38` (R322). -/
def execNop38 (s : State) : Result := .next (noEffect 0x38 s)
/-- `*NOP 0xCB` (R322). -/
def execNopCB (s : State) : Result := .next (noEffect 0xCB s)
/-- `*NOP 0xD9` (R322). -/
def execNopD9 (s : State) : Result := .next (noEffect 0xD9 s)
/-- `*NOP 0xDD` (R322). -/
def execNopDD (s : State) : Result := .next (noEffect 0xDD s)
/-- `*NOP 0xED` (R322). -/
def execNopED (s : State) : Result := .next (noEffect 0xED s)
/-- `*NOP 0xFD` (R322). -/
def execNopFD (s : State) : Result := .next (noEffect 0xFD s)

end Sys2Proof.Machine
end

