-- ==== Sys2Proof/Decode.lean ====
section
/-! DEFINITION. Decoding and encoding of macro instructions (spec/30_encoding.md R71 to R79). The decoder reads the fields
of the opcode byte as R75's bit patterns give them; the encoder is R75's opcode map written out, one opcode byte per
instruction. The two are written independently of each other. -/

namespace Sys2Proof

/-! ### The opcode byte -/

/-- Group `00`: `op[2:0]` tells the pattern, `op[5:3]`, `op[5:4]` and bit 3 its operands (R75). -/
def shapeOfGroup0 (op : Byte) : Shape :=
  match (opLow op).toNat with
  | 0 => match (opMid op).toNat with
    | 0 => .nop | 1 => .undoc .op08 | 2 => .undoc .op10 | 3 => .undoc .op18
    | 4 => .undoc .op20 | 5 => .undoc .op28 | 6 => .undoc .op30 | _ => .undoc .op38
  | 1 => if opBit3 op then .dad (Pair.ofField (opPair op)) else .lxi (Pair.ofField (opPair op))
  | 2 => match (opMid op).toNat with
    | 0 => .stax .bc | 1 => .ldax .bc | 2 => .stax .de | 3 => .ldax .de
    | 4 => .shld | 5 => .lhld | 6 => .sta | _ => .lda
  | 3 => if opBit3 op then .dcx (Pair.ofField (opPair op)) else .inx (Pair.ofField (opPair op))
  | 4 => match Reg.ofField (opMid op) with
    | some r => .inrR r
    | none => .inrM
  | 5 => match Reg.ofField (opMid op) with
    | some r => .dcrR r
    | none => .dcrM
  | 6 => match Reg.ofField (opMid op) with
    | some r => .mviR r
    | none => .mviM
  | _ => match (opMid op).toNat with
    | 0 => .rlc | 1 => .rrc | 2 => .ral | 3 => .rar | 4 => .daa | 5 => .cma | 6 => .stc | _ => .cmc

/-- Group `01`: `01dddsss`, with HLT where both fields name M (R75). -/
def shapeOfGroup1 (op : Byte) : Shape :=
  match Reg.ofField (opMid op), Reg.ofField (opLow op) with
  | some dst, some src => .movRR dst src
  | some dst, none => .movRM dst
  | none, some src => .movMR src
  | none, none => .hlt

/-- Group `10`: `10ooosss` (R75, R77). -/
def shapeOfGroup2 (op : Byte) : Shape :=
  match Reg.ofField (opLow op) with
  | some r => .accR (AccOp.ofField (opMid op)) r
  | none => .accM (AccOp.ofField (opMid op))

/-- Group `11` (R75). -/
def shapeOfGroup3 (op : Byte) : Shape :=
  match (opLow op).toNat with
  | 0 => .rcc (Cond.ofField (opMid op))
  | 1 =>
    if opBit3 op then
      match (opPair op).toNat with
      | 0 => .ret | 1 => .undoc .opD9 | 2 => .pchl | _ => .sphl
    else
      match StackPair.ofField (opPair op) with
      | some p => .pop p
      | none => .popPsw
  | 2 => .jcc (Cond.ofField (opMid op))
  | 3 => match (opMid op).toNat with
    | 0 => .jmp | 1 => .undoc .opCB | 2 => .outPort | 3 => .inPort
    | 4 => .xthl | 5 => .xchg | 6 => .di | _ => .ei
  | 4 => .ccc (Cond.ofField (opMid op))
  | 5 =>
    if opBit3 op then
      match (opPair op).toNat with
      | 0 => .call | 1 => .undoc .opDD | 2 => .undoc .opED | _ => .undoc .opFD
    else
      match StackPair.ofField (opPair op) with
      | some p => .push p
      | none => .pushPsw
  | 6 => .accI (AccOp.ofField (opMid op))
  | _ => .rst (opMid op)

/-- What an opcode byte says. Every byte says something: there is no illegal opcode (R75, R78). -/
def shapeOf (op : Byte) : Shape :=
  match (opGroup op).toNat with
  | 0 => shapeOfGroup0 op
  | 1 => shapeOfGroup1 op
  | 2 => shapeOfGroup2 op
  | _ => shapeOfGroup3 op

/-- The length in bytes of an instruction of a shape (R79). -/
def Shape.length : Shape → Nat
  | .lxi _ | .shld | .lhld | .sta | .lda | .jcc _ | .jmp | .ccc _ | .call => 3
  | .mviR _ | .mviM | .accI _ | .inPort | .outPort => 2
  | .movRR _ _ | .movRM _ | .movMR _ | .hlt | .ldax _ | .stax _ | .xchg | .accR _ _ | .accM _ | .inrR _ | .inrM
  | .dcrR _ | .dcrM | .inx _ | .dcx _ | .dad _ | .daa | .rlc | .rrc | .ral | .rar | .cma | .stc | .cmc | .ret | .rcc _
  | .rst _ | .pchl | .push _ | .pushPsw | .pop _ | .popPsw | .xthl | .sphl | .ei | .di | .nop | .undoc _ => 1

/-- Instruction length by opcode (R79): a decoder needs only the first byte. -/
def instrLength (op : Byte) : Nat := (shapeOf op).length

/-! ### The instruction of a shape and its operands -/

/-- MOV r1,r2 (R200). -/
def Instr.ofMov : Reg → Reg → Instr
  | .b, .b => .movBB | .b, .c => .movBC | .b, .d => .movBD | .b, .e => .movBE | .b, .h => .movBH | .b, .l => .movBL
  | .b, .a => .movBA | .c, .b => .movCB | .c, .c => .movCC | .c, .d => .movCD | .c, .e => .movCE | .c, .h => .movCH
  | .c, .l => .movCL | .c, .a => .movCA | .d, .b => .movDB | .d, .c => .movDC | .d, .d => .movDD | .d, .e => .movDE
  | .d, .h => .movDH | .d, .l => .movDL | .d, .a => .movDA | .e, .b => .movEB | .e, .c => .movEC | .e, .d => .movED
  | .e, .e => .movEE | .e, .h => .movEH | .e, .l => .movEL | .e, .a => .movEA | .h, .b => .movHB | .h, .c => .movHC
  | .h, .d => .movHD | .h, .e => .movHE | .h, .h => .movHH | .h, .l => .movHL | .h, .a => .movHA | .l, .b => .movLB
  | .l, .c => .movLC | .l, .d => .movLD | .l, .e => .movLE | .l, .h => .movLH | .l, .l => .movLL | .l, .a => .movLA
  | .a, .b => .movAB | .a, .c => .movAC | .a, .d => .movAD | .a, .e => .movAE | .a, .h => .movAH | .a, .l => .movAL
  | .a, .a => .movAA

/-- MOV r,M (R201). -/
def Instr.ofMovFromM : Reg → Instr
  | .b => .movBM | .c => .movCM | .d => .movDM | .e => .movEM | .h => .movHM | .l => .movLM | .a => .movAM

/-- MOV M,r (R202). -/
def Instr.ofMovToM : Reg → Instr
  | .b => .movMB | .c => .movMC | .d => .movMD | .e => .movME | .h => .movMH | .l => .movML | .a => .movMA

/-- MVI r,d8 (R203). -/
def Instr.ofMvi : Reg → Byte → Instr
  | .b => .mviB | .c => .mviC | .d => .mviD | .e => .mviE | .h => .mviH | .l => .mviL | .a => .mviA

/-- LXI rp,d16 (R205). -/
def Instr.ofLxi : Pair → Addr → Instr
  | .bc => .lxiB | .de => .lxiD | .hl => .lxiH | .sp => .lxiSp

/-- LDAX rp (R210). -/
def Instr.ofLdax : IndexPair → Instr
  | .bc => .ldaxB | .de => .ldaxD

/-- STAX rp (R211). -/
def Instr.ofStax : IndexPair → Instr
  | .bc => .staxB | .de => .staxD

/-- The accumulator operations on a register (R230 to R237). -/
def Instr.ofAcc : AccOp → Reg → Instr
  | .add, .b => .addB | .add, .c => .addC | .add, .d => .addD | .add, .e => .addE | .add, .h => .addH
  | .add, .l => .addL | .add, .a => .addA | .adc, .b => .adcB | .adc, .c => .adcC | .adc, .d => .adcD
  | .adc, .e => .adcE | .adc, .h => .adcH | .adc, .l => .adcL | .adc, .a => .adcA | .sub, .b => .subB
  | .sub, .c => .subC | .sub, .d => .subD | .sub, .e => .subE | .sub, .h => .subH | .sub, .l => .subL
  | .sub, .a => .subA | .sbb, .b => .sbbB | .sbb, .c => .sbbC | .sbb, .d => .sbbD | .sbb, .e => .sbbE
  | .sbb, .h => .sbbH | .sbb, .l => .sbbL | .sbb, .a => .sbbA | .ana, .b => .anaB | .ana, .c => .anaC
  | .ana, .d => .anaD | .ana, .e => .anaE | .ana, .h => .anaH | .ana, .l => .anaL | .ana, .a => .anaA
  | .xra, .b => .xraB | .xra, .c => .xraC | .xra, .d => .xraD | .xra, .e => .xraE | .xra, .h => .xraH
  | .xra, .l => .xraL | .xra, .a => .xraA | .ora, .b => .oraB | .ora, .c => .oraC | .ora, .d => .oraD
  | .ora, .e => .oraE | .ora, .h => .oraH | .ora, .l => .oraL | .ora, .a => .oraA | .cmp, .b => .cmpB
  | .cmp, .c => .cmpC | .cmp, .d => .cmpD | .cmp, .e => .cmpE | .cmp, .h => .cmpH | .cmp, .l => .cmpL
  | .cmp, .a => .cmpA

/-- The accumulator operations on M (R230 to R237). -/
def Instr.ofAccM : AccOp → Instr
  | .add => .addM | .adc => .adcM | .sub => .subM | .sbb => .sbbM | .ana => .anaM | .xra => .xraM | .ora => .oraM
  | .cmp => .cmpM

/-- The accumulator operations on an immediate byte (R238 to R245). -/
def Instr.ofAccImm : AccOp → Byte → Instr
  | .add => .adi | .adc => .aci | .sub => .sui | .sbb => .sbi | .ana => .ani | .xra => .xri | .ora => .ori
  | .cmp => .cpi

/-- INR r (R246). -/
def Instr.ofInr : Reg → Instr
  | .b => .inrB | .c => .inrC | .d => .inrD | .e => .inrE | .h => .inrH | .l => .inrL | .a => .inrA

/-- DCR r (R248). -/
def Instr.ofDcr : Reg → Instr
  | .b => .dcrB | .c => .dcrC | .d => .dcrD | .e => .dcrE | .h => .dcrH | .l => .dcrL | .a => .dcrA

/-- INX rp (R250). -/
def Instr.ofInx : Pair → Instr
  | .bc => .inxB | .de => .inxD | .hl => .inxH | .sp => .inxSp

/-- DCX rp (R251). -/
def Instr.ofDcx : Pair → Instr
  | .bc => .dcxB | .de => .dcxD | .hl => .dcxH | .sp => .dcxSp

/-- DAD rp (R252). -/
def Instr.ofDad : Pair → Instr
  | .bc => .dadB | .de => .dadD | .hl => .dadH | .sp => .dadSp

/-- Jcc a16 (R271). -/
def Instr.ofJcc : Cond → Addr → Instr
  | .nz => .jnz | .z => .jz | .nc => .jnc | .c => .jc | .po => .jpo | .pe => .jpe | .p => .jp | .m => .jm

/-- Ccc a16 (R281). -/
def Instr.ofCcc : Cond → Addr → Instr
  | .nz => .cnz | .z => .cz | .nc => .cnc | .c => .cc | .po => .cpo | .pe => .cpe | .p => .cp | .m => .cm

/-- Rcc (R291). -/
def Instr.ofRcc : Cond → Instr
  | .nz => .rnz | .z => .rz | .nc => .rnc | .c => .rc | .po => .rpo | .pe => .rpe | .p => .rp | .m => .rm

/-- RST n (R300). -/
def Instr.ofRst (n : BitVec 3) : Instr :=
  match n.toNat with
  | 0 => .rst0 | 1 => .rst1 | 2 => .rst2 | 3 => .rst3 | 4 => .rst4 | 5 => .rst5 | 6 => .rst6 | _ => .rst7

/-- PUSH rp (R310). -/
def Instr.ofPush : StackPair → Instr
  | .bc => .pushB | .de => .pushD | .hl => .pushH

/-- POP rp (R312). -/
def Instr.ofPop : StackPair → Instr
  | .bc => .popB | .de => .popD | .hl => .popH

/-- The undocumented stubs (R322). -/
def Instr.ofUndoc : Undoc → Instr
  | .op08 => .nop08 | .op10 => .nop10 | .op18 => .nop18 | .op20 => .nop20 | .op28 => .nop28 | .op30 => .nop30
  | .op38 => .nop38 | .opCB => .nopCB | .opD9 => .nopD9 | .opDD => .nopDD | .opED => .nopED | .opFD => .nopFD

/-- The instruction of a shape whose operand bytes are `lo`, at the address after the opcode, and `hi`, at the one after
that (R72). -/
def Shape.instr (sh : Shape) (lo hi : Byte) : Instr :=
  match sh with
  | .movRR dst src => .ofMov dst src | .movRM dst => .ofMovFromM dst | .movMR src => .ofMovToM src | .hlt => .hlt
  | .mviR dst => .ofMvi dst lo | .mviM => .mviM lo | .lxi p => .ofLxi p (pairOf hi lo)
  | .lda => .lda (pairOf hi lo) | .lhld => .lhld (pairOf hi lo) | .shld => .shld (pairOf hi lo)
  | .sta => .sta (pairOf hi lo) | .ldax p => .ofLdax p | .stax p => .ofStax p | .xchg => .xchg
  | .accR o s => .ofAcc o s | .accM o => .ofAccM o | .accI o => .ofAccImm o lo
  | .inrR dst => .ofInr dst | .inrM => .inrM | .dcrR dst => .ofDcr dst | .dcrM => .dcrM
  | .inx p => .ofInx p | .dcx p => .ofDcx p | .dad p => .ofDad p | .daa => .daa
  | .rlc => .rlc | .rrc => .rrc | .ral => .ral | .rar => .rar | .cma => .cma | .stc => .stc | .cmc => .cmc
  | .jmp => .jmp (pairOf hi lo) | .jcc cc => .ofJcc cc (pairOf hi lo) | .call => .call (pairOf hi lo)
  | .ccc cc => .ofCcc cc (pairOf hi lo) | .ret => .ret | .rcc cc => .ofRcc cc | .rst n => .ofRst n | .pchl => .pchl
  | .push p => .ofPush p | .pushPsw => .pushPsw | .pop p => .ofPop p | .popPsw => .popPsw | .xthl => .xthl
  | .sphl => .sphl | .inPort => .inPort lo | .outPort => .outPort lo | .ei => .ei | .di => .di | .nop => .nop
  | .undoc u => .ofUndoc u

/-- The instruction whose opcode byte is `op` and whose following bytes are `lo` and `hi`, as far as it has them. -/
def decode3 (op lo hi : Byte) : Instr := (shapeOf op).instr lo hi

/-- Why a list of bytes is not the beginning of a program: it ends before the instruction does. -/
inductive DecodeError where
  /-- There is no opcode byte. -/
  | noOpcode
  /-- The operand bytes of this opcode are cut short. -/
  | operandMissing (op : Byte)
deriving DecidableEq, Repr

/-- The first instruction of a list of bytes and the bytes after it (R71, R72). -/
def decode (bytes : List Byte) : Except DecodeError (Instr × List Byte) :=
  match bytes with
  | [] => .error .noOpcode
  | op :: rest =>
    match (shapeOf op).length, rest with
    | 1, _ => .ok (decode3 op 0 0, rest)
    | 2, lo :: rest => .ok (decode3 op lo 0, rest)
    | 3, lo :: hi :: rest => .ok (decode3 op lo hi, rest)
    | _, _ => .error (.operandMissing op)

/-- The bytes of an instruction word numbered as spec/opcode_table.json numbers them: bits 7:0 are the opcode byte, every
bit at `nbits` or above is 0. -/
def tableBytes (nbits w : Nat) : List Byte :=
  [byteOfNat (w % 2 ^ nbits) 0, byteOfNat (w % 2 ^ nbits) 1, byteOfNat (w % 2 ^ nbits) 2]

/-- The instruction that the decoder reads from such a word. -/
def decodeTableWord (nbits w : Nat) : Option Instr :=
  match decode (tableBytes nbits w) with
  | .ok (i, _) => some i
  | .error _ => none

/-! ### The encoder -/

/-- An instruction of format F3: the low byte at the lower address (R71, R72). -/
def bytesF3 (op : Byte) (v : Addr) : List Byte := [op, loByte v, hiByte v]

/-- The bytes of an instruction, opcode byte first, from the opcode map (R75). -/
def encode : Instr → List Byte
  | .nop => [0x00] | .lxiB d16 => bytesF3 0x01 d16 | .staxB => [0x02] | .inxB => [0x03] | .inrB => [0x04]
  | .dcrB => [0x05] | .mviB d8 => [0x06, d8] | .rlc => [0x07] | .nop08 => [0x08] | .dadB => [0x09] | .ldaxB => [0x0A]
  | .dcxB => [0x0B] | .inrC => [0x0C] | .dcrC => [0x0D] | .mviC d8 => [0x0E, d8] | .rrc => [0x0F] | .nop10 => [0x10]
  | .lxiD d16 => bytesF3 0x11 d16 | .staxD => [0x12] | .inxD => [0x13] | .inrD => [0x14] | .dcrD => [0x15]
  | .mviD d8 => [0x16, d8] | .ral => [0x17] | .nop18 => [0x18] | .dadD => [0x19] | .ldaxD => [0x1A] | .dcxD => [0x1B]
  | .inrE => [0x1C] | .dcrE => [0x1D] | .mviE d8 => [0x1E, d8] | .rar => [0x1F] | .nop20 => [0x20]
  | .lxiH d16 => bytesF3 0x21 d16 | .shld a16 => bytesF3 0x22 a16 | .inxH => [0x23] | .inrH => [0x24]
  | .dcrH => [0x25] | .mviH d8 => [0x26, d8] | .daa => [0x27] | .nop28 => [0x28] | .dadH => [0x29]
  | .lhld a16 => bytesF3 0x2A a16 | .dcxH => [0x2B] | .inrL => [0x2C] | .dcrL => [0x2D] | .mviL d8 => [0x2E, d8]
  | .cma => [0x2F] | .nop30 => [0x30] | .lxiSp d16 => bytesF3 0x31 d16 | .sta a16 => bytesF3 0x32 a16
  | .inxSp => [0x33] | .inrM => [0x34] | .dcrM => [0x35] | .mviM d8 => [0x36, d8] | .stc => [0x37] | .nop38 => [0x38]
  | .dadSp => [0x39] | .lda a16 => bytesF3 0x3A a16 | .dcxSp => [0x3B] | .inrA => [0x3C] | .dcrA => [0x3D]
  | .mviA d8 => [0x3E, d8] | .cmc => [0x3F] | .movBB => [0x40] | .movBC => [0x41] | .movBD => [0x42]
  | .movBE => [0x43] | .movBH => [0x44] | .movBL => [0x45] | .movBM => [0x46] | .movBA => [0x47] | .movCB => [0x48]
  | .movCC => [0x49] | .movCD => [0x4A] | .movCE => [0x4B] | .movCH => [0x4C] | .movCL => [0x4D] | .movCM => [0x4E]
  | .movCA => [0x4F] | .movDB => [0x50] | .movDC => [0x51] | .movDD => [0x52] | .movDE => [0x53] | .movDH => [0x54]
  | .movDL => [0x55] | .movDM => [0x56] | .movDA => [0x57] | .movEB => [0x58] | .movEC => [0x59] | .movED => [0x5A]
  | .movEE => [0x5B] | .movEH => [0x5C] | .movEL => [0x5D] | .movEM => [0x5E] | .movEA => [0x5F] | .movHB => [0x60]
  | .movHC => [0x61] | .movHD => [0x62] | .movHE => [0x63] | .movHH => [0x64] | .movHL => [0x65] | .movHM => [0x66]
  | .movHA => [0x67] | .movLB => [0x68] | .movLC => [0x69] | .movLD => [0x6A] | .movLE => [0x6B] | .movLH => [0x6C]
  | .movLL => [0x6D] | .movLM => [0x6E] | .movLA => [0x6F] | .movMB => [0x70] | .movMC => [0x71] | .movMD => [0x72]
  | .movME => [0x73] | .movMH => [0x74] | .movML => [0x75] | .hlt => [0x76] | .movMA => [0x77] | .movAB => [0x78]
  | .movAC => [0x79] | .movAD => [0x7A] | .movAE => [0x7B] | .movAH => [0x7C] | .movAL => [0x7D] | .movAM => [0x7E]
  | .movAA => [0x7F] | .addB => [0x80] | .addC => [0x81] | .addD => [0x82] | .addE => [0x83] | .addH => [0x84]
  | .addL => [0x85] | .addM => [0x86] | .addA => [0x87] | .adcB => [0x88] | .adcC => [0x89] | .adcD => [0x8A]
  | .adcE => [0x8B] | .adcH => [0x8C] | .adcL => [0x8D] | .adcM => [0x8E] | .adcA => [0x8F] | .subB => [0x90]
  | .subC => [0x91] | .subD => [0x92] | .subE => [0x93] | .subH => [0x94] | .subL => [0x95] | .subM => [0x96]
  | .subA => [0x97] | .sbbB => [0x98] | .sbbC => [0x99] | .sbbD => [0x9A] | .sbbE => [0x9B] | .sbbH => [0x9C]
  | .sbbL => [0x9D] | .sbbM => [0x9E] | .sbbA => [0x9F] | .anaB => [0xA0] | .anaC => [0xA1] | .anaD => [0xA2]
  | .anaE => [0xA3] | .anaH => [0xA4] | .anaL => [0xA5] | .anaM => [0xA6] | .anaA => [0xA7] | .xraB => [0xA8]
  | .xraC => [0xA9] | .xraD => [0xAA] | .xraE => [0xAB] | .xraH => [0xAC] | .xraL => [0xAD] | .xraM => [0xAE]
  | .xraA => [0xAF] | .oraB => [0xB0] | .oraC => [0xB1] | .oraD => [0xB2] | .oraE => [0xB3] | .oraH => [0xB4]
  | .oraL => [0xB5] | .oraM => [0xB6] | .oraA => [0xB7] | .cmpB => [0xB8] | .cmpC => [0xB9] | .cmpD => [0xBA]
  | .cmpE => [0xBB] | .cmpH => [0xBC] | .cmpL => [0xBD] | .cmpM => [0xBE] | .cmpA => [0xBF] | .rnz => [0xC0]
  | .popB => [0xC1] | .jnz a16 => bytesF3 0xC2 a16 | .jmp a16 => bytesF3 0xC3 a16 | .cnz a16 => bytesF3 0xC4 a16
  | .pushB => [0xC5] | .adi d8 => [0xC6, d8] | .rst0 => [0xC7] | .rz => [0xC8] | .ret => [0xC9]
  | .jz a16 => bytesF3 0xCA a16 | .nopCB => [0xCB] | .cz a16 => bytesF3 0xCC a16 | .call a16 => bytesF3 0xCD a16
  | .aci d8 => [0xCE, d8] | .rst1 => [0xCF] | .rnc => [0xD0] | .popD => [0xD1] | .jnc a16 => bytesF3 0xD2 a16
  | .outPort d8 => [0xD3, d8] | .cnc a16 => bytesF3 0xD4 a16 | .pushD => [0xD5] | .sui d8 => [0xD6, d8]
  | .rst2 => [0xD7] | .rc => [0xD8] | .nopD9 => [0xD9] | .jc a16 => bytesF3 0xDA a16 | .inPort d8 => [0xDB, d8]
  | .cc a16 => bytesF3 0xDC a16 | .nopDD => [0xDD] | .sbi d8 => [0xDE, d8] | .rst3 => [0xDF] | .rpo => [0xE0]
  | .popH => [0xE1] | .jpo a16 => bytesF3 0xE2 a16 | .xthl => [0xE3] | .cpo a16 => bytesF3 0xE4 a16
  | .pushH => [0xE5] | .ani d8 => [0xE6, d8] | .rst4 => [0xE7] | .rpe => [0xE8] | .pchl => [0xE9]
  | .jpe a16 => bytesF3 0xEA a16 | .xchg => [0xEB] | .cpe a16 => bytesF3 0xEC a16 | .nopED => [0xED]
  | .xri d8 => [0xEE, d8] | .rst5 => [0xEF] | .rp => [0xF0] | .popPsw => [0xF1] | .jp a16 => bytesF3 0xF2 a16
  | .di => [0xF3] | .cp a16 => bytesF3 0xF4 a16 | .pushPsw => [0xF5] | .ori d8 => [0xF6, d8] | .rst6 => [0xF7]
  | .rm => [0xF8] | .sphl => [0xF9] | .jm a16 => bytesF3 0xFA a16 | .ei => [0xFB] | .cm a16 => bytesF3 0xFC a16
  | .nopFD => [0xFD] | .cpi d8 => [0xFE, d8] | .rst7 => [0xFF]

/-- The opcode byte of an instruction. -/
def Instr.opcode (i : Instr) : Byte := (encode i).headD 0

end Sys2Proof
end

