-- ==== Sys2Proof/Machine/Fetch.lean ====
section
/-! DEFINITION. Fetching an instruction (spec/42_micro_ops.md R141, spec/20_memory.md R51): the bytes at PC, and placing
an instruction there. -/

namespace Sys2Proof.Machine

/-- The bytes at PC, as many as the longest instruction has (R71, R44). A read has no side effect (R45). -/
def State.fetchBytes (s : State) : List Byte := [s.readByte s.pc, s.readByte (s.pc + 1), s.readByte (s.pc + 2)]

/-- The instruction at PC (R71, R72, R141). -/
def State.fetchInstr (s : State) : Instr :=
  decode3 (s.readByte s.pc) (s.readByte (s.pc + 1)) (s.readByte (s.pc + 2))

/-- The state with the bytes of an instruction word at PC, at an instruction boundary. -/
def State.placeWord (s : State) (nbits w : Nat) : State := { s.placeBytes s.pc (tableBytes nbits w) with step := 0 }

end Sys2Proof.Machine
end

