-- ==== Sys2Proof/Machine/ControlWord.lean ====
section
/-! DEFINITION. The control-word codec (spec/30_encoding.md R60 to R67): the numeric codes of the enumerants and the two
total, mutually inverse maps between a control word's fields and its 32 bits. The codes and the positions are the spec's
own decisions D1 to D5 (notes/assumptions/13.md). -/

namespace Sys2Proof

/-! ### Codes -/

/-- `REG_CODE` (R62). -/
def Sel.code : Sel → BitVec 4
  | .b => 0 | .c => 1 | .d => 2 | .e => 3 | .h => 4 | .l => 5 | .m => 6 | .a => 7
  | .pch => 8 | .pcl => 9 | .sph => 10 | .spl => 11 | .mah => 12 | .mal => 13 | .flags => 14 | .ir => 15

/-- The register of a code (R62). -/
def Sel.ofCode (v : BitVec 4) : Sel :=
  match v.toNat with
  | 0 => .b | 1 => .c | 2 => .d | 3 => .e | 4 => .h | 5 => .l | 6 => .m | 7 => .a
  | 8 => .pch | 9 => .pcl | 10 => .sph | 11 => .spl | 12 => .mah | 13 => .mal | 14 => .flags | _ => .ir

/-- `ADR_CODE` (R63). -/
def AdrSrc.code : AdrSrc → BitVec 2
  | .hl => 0 | .pc => 1 | .sp => 2 | .ma => 3

/-- The address-bus source of a code (R63). -/
def AdrSrc.ofCode (v : BitVec 2) : AdrSrc :=
  match v.toNat with
  | 0 => .hl | 1 => .pc | 2 => .sp | _ => .ma

/-- `ALU_CODE` (R64). -/
def AluOp.code : AluOp → BitVec 4
  | .byp => 0 | .zero => 1 | .incl => 2 | .inch => 3 | .decl => 4 | .dech => 5 | .rar => 6 | .rrc => 7
  | .add => 8 | .adc => 9 | .sub => 10 | .sbb => 11 | .and => 12 | .xor => 13 | .or => 14 | .cmp => 15

/-- The ALU operation of a code (R64). -/
def AluOp.ofCode (v : BitVec 4) : AluOp :=
  match v.toNat with
  | 0 => .byp | 1 => .zero | 2 => .incl | 3 => .inch | 4 => .decl | 5 => .dech | 6 => .rar | 7 => .rrc
  | 8 => .add | 9 => .adc | 10 => .sub | 11 => .sbb | 12 => .and | 13 => .xor | 14 => .or | _ => .cmp

/-- `CSEL_CODE` (R65). -/
def CSel.code : CSel → BitVec 3
  | .none => 0 | .nz => 1 | .z => 2 | .nc => 3 | .c => 4 | .p => 5 | .m => 6 | .rstv => 7

/-- The condition-select value of a code (R65). -/
def CSel.ofCode (v : BitVec 3) : CSel :=
  match v.toNat with
  | 0 => .none | 1 => .nz | 2 => .z | 3 => .nc | 4 => .c | 5 => .p | 6 => .m | _ => .rstv

/-! ### The codec -/

/-- A field of `n` bits at bit `pos` of the word, the rest 0. -/
def fieldAt (v : BitVec n) (pos : Nat) : Word32 := v.setWidth 32 <<< pos

/-- `encode` (R61). -/
def ControlWord.encode (f : ControlWord) : Word32 :=
  fieldAt f.src.code 0 ||| fieldAt f.dst.code 4 ||| fieldAt f.adr.code 8 ||| fieldAt f.alu.code 10
    ||| fieldAt (BitVec.ofBool f.ccap) 14 ||| fieldAt (BitVec.ofBool f.zscap) 15 ||| fieldAt f.csel.code 16
    ||| fieldAt (BitVec.ofBool f.cset) 19 ||| fieldAt (BitVec.ofBool f.ccpl) 20 ||| fieldAt (BitVec.ofBool f.swap) 21
    ||| fieldAt (BitVec.ofBool f.ei) 22 ||| fieldAt (BitVec.ofBool f.di) 23 ||| fieldAt f.rsv 24
    ||| fieldAt (BitVec.ofBool f.last) 31

/-- `decode` (R61): the fourteen slices of R60. -/
def ControlWord.decode (w : Word32) : ControlWord where
  src := Sel.ofCode (w.extractLsb' 0 4)
  dst := Sel.ofCode (w.extractLsb' 4 4)
  adr := AdrSrc.ofCode (w.extractLsb' 8 2)
  alu := AluOp.ofCode (w.extractLsb' 10 4)
  ccap := w.getLsbD 14
  zscap := w.getLsbD 15
  csel := CSel.ofCode (w.extractLsb' 16 3)
  cset := w.getLsbD 19
  ccpl := w.getLsbD 20
  swap := w.getLsbD 21
  ei := w.getLsbD 22
  di := w.getLsbD 23
  rsv := w.extractLsb' 24 7
  last := w.getLsbD 31

end Sys2Proof
end

