-- ==== Sys2Proof/Machine/MicroStep.lean ====
section
/-! DEFINITION. What one control word does in one clock (spec/41_micro_step.md R120 to R138): total over every word and
every state. The commits are applied one after another in the priority order of R121, each reading the state before the
step, so that the later of two commits to one piece of state wins. -/

namespace Sys2Proof.Machine

/-- The byte on the data bus after restart-vector gating, `x` (R120, R123, R124). -/
def State.busValue (s : State) (f : ControlWord) : Byte :=
  let raw := s.source f.src (s.address f.adr)
  if f.csel = .rstv then raw &&& 0x38 else raw

/-- `(out, cout)` of the word (R120). -/
def State.aluOutput (s : State) (f : ControlWord) : Byte × Bool := alu f.alu s.a (s.busValue f) s.cy s.chain

/-- Commit (1), the destination latch; compare latches nothing (R125). -/
def State.commitLatch (s : State) (f : ControlWord) (adr : Addr) (out : Byte) : State :=
  if f.alu = .cmp then s else s.latch f.dst adr out

/-- Commit (3), the carry capture (R127). -/
def State.commitCarry (s : State) (f : ControlWord) (cout : Bool) : State := if f.ccap then s.withCY cout else s

/-- Commit (4), the zero/sign capture (R128). -/
def State.commitZS (s : State) (f : ControlWord) (out : Byte) : State := if f.zscap then s.captureZS out else s

/-- Commit (5), carry set (R129). -/
def State.commitSet (s : State) (f : ControlWord) : State := if f.cset then s.withCY true else s

/-- Commit (6), carry complement: of the value CY has after the commits before it (R121, R130). -/
def State.commitComplement (s : State) (f : ControlWord) : State := if f.ccpl then s.withCY (!s.cy) else s

/-- HL and DE exchanged (R131). -/
def State.swapPairs (s : State) : State := { s with h := s.d, l := s.e, d := s.h, e := s.l }

/-- Commit (7), register swap: of the values H, L, D, E have after the latch (R121, R131). -/
def State.commitSwap (s : State) (f : ControlWord) : State := if f.swap then s.swapPairs else s

/-- Commits (8) and (9), interrupt enable and disable; disable wins (R121, R132, R133). -/
def State.commitInte (s : State) (f : ControlWord) : State :=
  let s' := if f.ei then s.withInte true else s
  if f.di then s'.withInte false else s'

/-- Commit (10), the step counter (R134, R182). -/
def State.commitStep (s : State) (f : ControlWord) : State := { s with step := if f.last then 0 else s.step + 1 }

/-- One micro-step (R120): the effect of the control word `f`. -/
def microStep (f : ControlWord) (s : State) : State :=
  let r := s.aluOutput f
  ((((((((s.commitLatch f (s.address f.adr) r.1).withChain r.2).commitCarry f r.2).commitZS f r.1).commitSet f
    ).commitComplement f).commitSwap f).commitInte f).commitStep f

/-- One micro-step of a 32-bit word (R120, R138). -/
def microStepWord (w : Word32) (s : State) : State := microStep (ControlWord.decode w) s

/-- One memory access of a step (R41). -/
inductive Access where
  /-- A read: the address and the byte it returned. -/
  | read (a : Addr) (v : Byte)
  /-- A write: the address and the byte stored. -/
  | write (a : Addr) (v : Byte)
deriving DecidableEq, Repr

/-- The memory accesses of one micro-step, in order (R41, R123, R125): a read where the source is M, a write where the
destination is M and the operation is not compare. -/
def microAccesses (f : ControlWord) (s : State) : List Access :=
  let adr := s.address f.adr
  (if f.src = .m then [.read adr (s.readByte adr)] else [])
    ++ (if f.dst = .m ∧ f.alu ≠ .cmp then [.write adr (s.aluOutput f).1] else [])

end Sys2Proof.Machine
end

