-- ==== Sys2Proof/Machine/MicroOps.lean ====
section
/-! DEFINITION. The micro-operation library (spec/42_micro_ops.md R141 to R176): each name is one control word, given by the
fields its rule lists; fields not listed are 0 (R140). -/

namespace Sys2Proof.Machine.MicroOp

/-! ### Transfers -/

/-- `FETCH` (R141). -/
def fetch : ControlWord := { src := .m, dst := .ir, adr := .pc }
/-- `MOV(d,s)` (R142). -/
def mov (dst src : Sel) : ControlWord := { src, dst }
/-- `LD(d,[P])` (R143). -/
def ld (dst : Sel) (p : AdrSrc) : ControlWord := { src := .m, dst, adr := p }
/-- `ST([P],s)` (R144). -/
def st (p : AdrSrc) (src : Sel) : ControlWord := { src, dst := .m, adr := p }

/-! ### Increment and decrement -/

/-- `INCL(r)` (R145). -/
def incl (r : Sel) : ControlWord := { src := r, dst := r, alu := .incl }
/-- `INCH(r)` (R146). -/
def inch (r : Sel) : ControlWord := { src := r, dst := r, alu := .inch }
/-- `DECL(r)` (R147). -/
def decl (r : Sel) : ControlWord := { src := r, dst := r, alu := .decl }
/-- `DECH(r)` (R148). -/
def dech (r : Sel) : ControlWord := { src := r, dst := r, alu := .dech }
/-- `INR(r)` (R149). -/
def inr (r : Sel) : ControlWord := { src := r, dst := r, alu := .incl, zscap := true }
/-- `DCR(r)` (R150). -/
def dcr (r : Sel) : ControlWord := { src := r, dst := r, alu := .decl, zscap := true }
/-- `INRM(d,[P])` (R151). -/
def inrM (dst : Sel) (p : AdrSrc) : ControlWord := { src := .m, dst, adr := p, alu := .incl, zscap := true }
/-- `DCRM(d,[P])` (R152). -/
def dcrM (dst : Sel) (p : AdrSrc) : ControlWord := { src := .m, dst, adr := p, alu := .decl, zscap := true }

/-! ### Accumulator arithmetic and logic -/

/-- `ACC(op,s)` (R153). -/
def acc (op : AccOp) (src : Sel) : ControlWord := { src, dst := .a, alu := op.alu, ccap := true, zscap := true }
/-- `ACCM(op,[P])` (R154). -/
def accM (op : AccOp) (p : AdrSrc) : ControlWord :=
  { src := .m, dst := .a, adr := p, alu := op.alu, ccap := true, zscap := true }
/-- `ADDC(d,s)` (R155). -/
def addc (dst src : Sel) : ControlWord := { src, dst, alu := .add, ccap := true }
/-- `ADCC(d,s)` (R156). -/
def adcc (dst src : Sel) : ControlWord := { src, dst, alu := .adc, ccap := true }
/-- `XORNF(s)` (R157). -/
def xornf (src : Sel) : ControlWord := { src, dst := .a, alu := .xor }
/-- `CLR(d)` (R158). -/
def clr (r : Sel) : ControlWord := { src := r, dst := r, alu := .zero }

/-! ### Rotates -/

/-- `ROT_RLC1` (R159). -/
def rotRlc1 : ControlWord := { src := .a, dst := .a, alu := .add, ccap := true }
/-- `ROT_RLC2` (R160). -/
def rotRlc2 : ControlWord := { src := .a, dst := .a, alu := .inch }
/-- `ROT_RRC` (R161). -/
def rotRrc : ControlWord := { src := .a, dst := .a, alu := .rrc, ccap := true }
/-- `ROT_RAL` (R162). -/
def rotRal : ControlWord := { src := .a, dst := .a, alu := .adc, ccap := true }
/-- `ROT_RAR` (R163). -/
def rotRar : ControlWord := { src := .a, dst := .a, alu := .rar, ccap := true }

/-! ### Signals and the inert word -/

/-- `IDLE` (R164), the zero word. -/
def idle : ControlWord := {}
/-- `SIG_STC` (R165). -/
def sigStc : ControlWord := { cset := true }
/-- `SIG_CMC` (R166). -/
def sigCmc : ControlWord := { ccpl := true }
/-- `SIG_XCHG` (R167). -/
def sigXchg : ControlWord := { swap := true }
/-- `SIG_EI` (R168). -/
def sigEi : ControlWord := { ei := true }
/-- `SIG_DI` (R169). -/
def sigDi : ControlWord := { di := true }
/-- `RSTVEC` (R170). -/
def rstvec : ControlWord := { src := .ir, dst := .pcl, csel := .rstv }

/-! ### Suffixes -/

/-- `u+LAST` (R171). -/
def withLast (u : ControlWord) : ControlWord := { u with last := true }
/-- `u+CS_c` (R172), the condition select `NONE` standing for no suffix. -/
def withSelect (csel : CSel) (u : ControlWord) : ControlWord := { u with csel }

/-! ### Two-step idioms -/

/-- `ADV` (R173). -/
def adv : List ControlWord := [incl .pcl, inch .pch]
/-- `SPINC` (R174). -/
def spInc : List ControlWord := [incl .spl, inch .sph]
/-- `SPDEC` (R175). -/
def spDec : List ControlWord := [decl .spl, dech .sph]
/-- `MAINC` (R176). -/
def maInc : List ControlWord := [incl .mal, inch .mah]

end Sys2Proof.Machine.MicroOp
end

