-- ==== Sys2Proof/WellFormed.lean ====
section
/-! DEFINITION. What a well-formed control word, bank and row of the control store satisfies (spec/30_encoding.md R69;
spec/41_micro_step.md R137; spec/42_micro_ops.md R141; spec/43_sequencer_and_rom.md R187, R191 to R195). These bind the
table builder, not the codec: every 32-bit word decodes. A macro instruction needs no check of its own: its operand types
admit exactly the values its encoding admits, and there is no reserved opcode (R78). Each check is a Bool;
Sys2Proof/Tests/Slice0.lean gives each an ill-formed term. -/

namespace Sys2Proof

open Machine (MicroOp.fetch MicroOp.rotRlc1 MicroOp.rotRlc2)

/-- R137, in every state: the word rewrites a register with its own value and every signal is off. LAST may be set. -/
def ControlWord.inert (f : ControlWord) : Bool :=
  f.src == f.dst && f.src != .m && f.alu == .byp && f.csel != .rstv && !f.ccap && !f.zscap && !f.cset && !f.ccpl && !f.swap
    && !f.ei && !f.di

/-- The word with the five signals of R69 (g) turned off. -/
def ControlWord.unsignalled (f : ControlWord) : ControlWord :=
  { f with swap := false, ei := false, di := false, cset := false, ccpl := false }

/-- The word without the suffixes of R171 and R172. -/
def ControlWord.bare (f : ControlWord) : ControlWord := { f with csel := .none, last := false }

namespace WordCheck

/-- R69 (a): RSV is 0. -/
def rsvZero (f : ControlWord) : Bool := f.rsv == 0

/-- R69 (b): memory does not drive and latch the data bus in one word. -/
def oneDriver (f : ControlWord) : Bool := !(f.src == .m && f.dst == .m)

/-- R69 (c): IR is a destination only in FETCH. -/
def irOnlyFetch (f : ControlWord) : Bool := f.dst != .ir || f == MicroOp.fetch

/-- R69 (d): IR is a source exactly where the restart-vector gate is selected. -/
def irOnlyVector (f : ControlWord) : Bool := (f.src == .ir) == (f.csel == .rstv)

/-- R69 (e): FLAGS is loaded only from memory, unchanged and uncaptured, and stored only to memory, unchanged. -/
def flagsOnlyMemory (f : ControlWord) : Bool :=
  (f.dst != .flags || (f.alu == .byp && f.src == .m && !f.ccap && !f.zscap))
    && (f.src != .flags || (f.alu == .byp && f.dst == .m))

/-- R69 (f): at most one kind of flag write, and none beside a load of FLAGS. -/
def oneFlagWrite (f : ControlWord) : Bool :=
  let n := (f.ccap || f.zscap).toNat + f.cset.toNat + f.ccpl.toNat
  decide (n ≤ 1) && (f.dst != .flags || n == 0)

/-- R69 (g): at most one of the five signals, and only on a word that is inert but for it, with B as source and
destination. -/
def signalsInert (f : ControlWord) : Bool :=
  let n := f.swap.toNat + f.ei.toNat + f.di.toNat + f.cset.toNat + f.ccpl.toNat
  decide (n ≤ 1) && (n == 0 || (f.src == .b && f.unsignalled.inert))

/-- R69 (i): compare names A and captures every flag. -/
def cmpCaptures (f : ControlWord) : Bool := f.alu != .cmp || (f.dst == .a && f.ccap && f.zscap)

end WordCheck

/-- A control word that satisfies R69 (a) to (g) and (i); (h) is about a word and the one before it, `BankCheck.chains`. -/
def ControlWord.generated (f : ControlWord) : Bool :=
  WordCheck.rsvZero f && WordCheck.oneDriver f && WordCheck.irOnlyFetch f && WordCheck.irOnlyVector f
    && WordCheck.flagsOnlyMemory f && WordCheck.oneFlagWrite f && WordCheck.signalsInert f && WordCheck.cmpCaptures f

/-- The other half of the register's pair, high for low and low for high (R10, R62). -/
def Sel.otherHalf : Sel → Option Sel
  | .b => some .c | .c => some .b | .d => some .e | .e => some .d | .h => some .l | .l => some .h
  | .pch => some .pcl | .pcl => some .pch | .sph => some .spl | .spl => some .sph | .mah => some .mal | .mal => some .mah
  | .m => none | .a => none | .flags => none | .ir => none

namespace BankCheck

/-- R191: step 0 is FETCH. -/
def startsWithFetch (bank : List ControlWord) : Bool := bank.head? == some MicroOp.fetch

/-- R192: 32 words, of which exactly one has LAST, at step 1 or later; no word before it is zero, every word after it is. -/
def oneLast (bank : List ControlWord) : Bool :=
  let n := bank.findIdx (·.last)
  bank.length == 32 && decide (1 ≤ n) && decide (n < bank.length)
    && (bank.take n).all (fun f => f != {}) && (bank.drop (n + 1)).all (fun f => f == {})

/-- R141: no step but the first loads IR. -/
def fetchOnce (bank : List ControlWord) : Bool := (bank.drop 1).all (·.dst != .ir)

/-- The second word works in place on one half of a pair, the first, by the operation `low`, in place on the other half
(R145 to R148). -/
def continuesPair (low : AluOp) (prev cur : ControlWord) : Bool :=
  prev.alu == low && prev.src == prev.dst && cur.src == cur.dst && cur.dst.otherHalf == some prev.dst

/-- A word whose ALU operation reads CHAIN continues the word before it: INCH after INCL of the other half of the same
pair, DECH after DECL, or `ROT_RLC2` after `ROT_RLC1`. -/
def continues (prev cur : ControlWord) : Bool :=
  match cur.alu with
  | .inch => continuesPair .incl prev cur || (prev.bare == MicroOp.rotRlc1 && cur.bare == MicroOp.rotRlc2)
  | .dech => continuesPair .decl prev cur
  | .byp | .zero | .incl | .decl | .rar | .rrc | .add | .adc | .sub | .sbb | .and | .xor | .or | .cmp => true

/-- R69 (h), R195 (a): every word that reads CHAIN stands at step 2 or later, directly after the word that writes it. -/
def chains (bank : List ControlWord) : Bool :=
  (bank.take 2).all (fun f => f.alu != .inch && f.alu != .dech)
    && (bank.zip (bank.drop 1)).all (fun p => continues p.1 p.2)

/-- R195 (b): the two words of a 16-bit increment or decrement capture no flag. -/
def pairsUncaptured (bank : List ControlWord) : Bool :=
  (bank.zip (bank.drop 1)).all fun p =>
    !((p.2.alu == .inch || p.2.alu == .dech) && p.2.dst.otherHalf == some p.1.dst)
      || (!p.1.ccap && !p.1.zscap && !p.2.ccap && !p.2.zscap)

/-- R195 (d): no word writes a flag that the bank select reads. -/
def keepsFlags (bank : List ControlWord) : Bool :=
  bank.all fun f => !f.ccap && !f.zscap && !f.cset && !f.ccpl && f.dst != .flags

/-- R187: every word from step 1 up to the last carries the given condition select; RSTVEC alone carries RSTV. -/
def selects (sel : CSel) (bank : List ControlWord) : Bool :=
  ((bank.take (bank.findIdx (·.last) + 1)).drop 1).all fun f => f.csel == sel || (sel == .none && f.csel == .rstv)

end BankCheck

/-- The checks on one bank: R69, R141, R191, R192, R195 (a), (b), (e). -/
def wellFormedBank (bank : List ControlWord) : Bool :=
  BankCheck.startsWithFetch bank && BankCheck.fetchOnce bank && BankCheck.oneLast bank && BankCheck.chains bank
    && BankCheck.pairsUncaptured bank && bank.all ControlWord.generated

namespace RowCheck

/-- R193, R194: the banks of an unconditional row are equal, those of a conditional row differ. -/
def bankSplit (op : Byte) (bank0 bank1 : List ControlWord) : Bool := (bank0 == bank1) == !isConditional op

/-- R187: the condition select of a row's words. -/
def conditionSelect (op : Byte) (bank0 bank1 : List ControlWord) : Bool :=
  let sel := if isConditional op then (Cond.ofField (opMid op)).csel else .none
  BankCheck.selects sel bank0 && BankCheck.selects sel bank1

/-- R195 (d): the condition cannot change while a conditional instruction runs. -/
def conditionStable (op : Byte) (bank0 bank1 : List ControlWord) : Bool :=
  !isConditional op || (BankCheck.keepsFlags bank0 && BankCheck.keepsFlags bank1)

/-- R195 (c): the DAD rows capture carry and never zero/sign; the CMA row captures neither. -/
def captures (op : Byte) (bank : List ControlWord) : Bool :=
  (op &&& 0xCF != 0x09 || (bank.any (·.ccap) && bank.all (!·.zscap)))
    && (op != 0x2F || bank.all fun f => !f.ccap && !f.zscap)

end RowCheck

/-- The checks on one row: both banks well-formed, and R187, R193, R194, R195 (c), (d). -/
def wellFormedRow (op : Byte) (bank0 bank1 : List ControlWord) : Bool :=
  wellFormedBank bank0 && wellFormedBank bank1 && RowCheck.bankSplit op bank0 bank1
    && RowCheck.conditionSelect op bank0 bank1 && RowCheck.conditionStable op bank0 bank1
    && RowCheck.captures op bank0 && RowCheck.captures op bank1

end Sys2Proof
end

