-- ==== Sys2Proof/Machine/Rom.lean ====
section
/-! DEFINITION. The control store and the table builder (spec/43_sequencer_and_rom.md R180, R190, R196, R198): the
micro-program of every instruction, from the instruction rules of files 44 to 48, and the 16,384 words they fill. -/

namespace Sys2Proof.Machine

open MicroOp

/-! ### Micro-programs -/

/-- The common prefix `P` (R196). -/
def prologue : List ControlWord := fetch :: adv

/-- The two operand bytes of an address taken into MA, PC advanced past them (R206). -/
def fetchMA : List ControlWord := ld .mal .pc :: adv ++ ld .mah .pc :: adv

/-- Two bytes pushed, high first (R310). -/
def pushSteps (hi lo : Sel) : List ControlWord := spDec ++ st .sp hi :: spDec ++ [st .sp lo]

/-- Two bytes popped, low first (R312). -/
def popSteps (hi lo : Sel) : List ControlWord := ld lo .sp :: spInc ++ ld hi .sp :: spInc

/-- JMP and a taken Jcc (R270). -/
def jumpSteps : List ControlWord := prologue ++ ld .mal .pc :: adv ++ [ld .pch .pc, mov .pcl .mal]

/-- CALL and a taken Ccc (R280). -/
def callSteps : List ControlWord :=
  prologue ++ fetchMA ++ pushSteps .pch .pcl ++ [mov .pcl .mal, mov .pch .mah]

/-- RET and a taken Rcc (R290): no advance after the fetch. -/
def returnSteps : List ControlWord := fetch :: popSteps .pch .pcl

/-- The micro-program of a shape in a bank, `false` for bank 0, before the suffixes: the steps of the instruction rule. -/
def microProgram (sh : Shape) (bank : Bool) : List ControlWord :=
  match sh with
  | .movRR dst src => prologue ++ [mov dst.sel src.sel]
  | .movRM dst => prologue ++ [ld dst.sel .hl]
  | .movMR src => prologue ++ [st .hl src.sel]
  | .hlt => [fetch, idle]
  | .mviR dst => prologue ++ ld dst.sel .pc :: adv
  | .mviM => prologue ++ ld .mal .pc :: adv ++ [st .hl .mal]
  | .lxi p => prologue ++ ld p.loSel .pc :: adv ++ ld p.hiSel .pc :: adv
  | .lda => prologue ++ fetchMA ++ [ld .a .ma]
  | .lhld => prologue ++ fetchMA ++ ld .l .ma :: maInc ++ [ld .h .ma]
  | .shld => prologue ++ fetchMA ++ st .ma .l :: maInc ++ [st .ma .h]
  | .sta => prologue ++ fetchMA ++ [st .ma .a]
  | .ldax p => prologue ++ [mov .mal p.pair.loSel, mov .mah p.pair.hiSel, ld .a .ma]
  | .stax p => prologue ++ [mov .mal p.pair.loSel, mov .mah p.pair.hiSel, st .ma .a]
  | .xchg => prologue ++ [sigXchg]
  | .accR op src => prologue ++ [acc op src.sel]
  | .accM op => prologue ++ [accM op .hl]
  | .accI op => prologue ++ accM op .pc :: adv
  | .inrR dst => prologue ++ [inr dst.sel]
  | .inrM => prologue ++ [inrM .mal .hl, st .hl .mal]
  | .dcrR dst => prologue ++ [dcr dst.sel]
  | .dcrM => prologue ++ [dcrM .mal .hl, st .hl .mal]
  | .inx p => prologue ++ [incl p.loSel, inch p.hiSel]
  | .dcx p => prologue ++ [decl p.loSel, dech p.hiSel]
  | .dad p => prologue ++ [mov .mal .a, mov .a .l, addc .l p.loSel, mov .a .h, adcc .h p.hiSel, mov .a .mal]
  | .daa | .nop | .undoc _ => prologue
  | .rlc => prologue ++ [rotRlc1, rotRlc2]
  | .rrc => prologue ++ [rotRrc]
  | .ral => prologue ++ [rotRal]
  | .rar => prologue ++ [rotRar]
  | .cma => prologue ++ [clr .mal, decl .mal, xornf .mal]
  | .stc => prologue ++ [sigStc]
  | .cmc => prologue ++ [sigCmc]
  | .jmp => jumpSteps
  | .jcc _ => if bank then jumpSteps else prologue ++ adv ++ adv
  | .call => callSteps
  | .ccc _ => if bank then callSteps else prologue ++ adv ++ adv
  | .ret => returnSteps
  | .rcc _ => if bank then returnSteps else prologue
  | .rst _ => prologue ++ pushSteps .pch .pcl ++ [clr .pch, rstvec]
  | .pchl => [fetch, mov .pcl .l, mov .pch .h]
  | .push p => prologue ++ pushSteps p.pair.hiSel p.pair.loSel
  | .pushPsw => prologue ++ pushSteps .a .flags
  | .pop p => prologue ++ popSteps p.pair.hiSel p.pair.loSel
  | .popPsw => prologue ++ popSteps .a .flags
  | .xthl => prologue ++ [ld .mal .sp, st .sp .l, mov .l .mal] ++ spInc ++ [ld .mal .sp, st .sp .h, mov .h .mal] ++ spDec
  | .sphl => prologue ++ [mov .spl .l, mov .sph .h]
  | .inPort | .outPort => prologue ++ adv
  | .ei => prologue ++ [sigEi]
  | .di => prologue ++ [sigDi]

/-- The condition select of the words of a row (R187). -/
def rowSelect : Shape → CSel
  | .rcc cc | .jcc cc | .ccc cc => cc.csel
  | _ => .none

/-- The last-cycle marker on the final step of a sequence (R171). -/
def markLast : List ControlWord → List ControlWord
  | [] => []
  | [u] => [withLast u]
  | u :: v :: rest => u :: markLast (v :: rest)

/-- The condition-select suffix on every step after step 0, where the row has a flag condition (R172, R187). -/
def markSelect (sel : CSel) (seq : List ControlWord) : List ControlWord :=
  match sel, seq with
  | .none, _ => seq
  | _, [] => []
  | sel, u :: rest => u :: rest.map (withSelect sel)

/-- The used steps of a bank, with their suffixes (R190). -/
def bankProgram (op : Byte) (bank : Bool) : List ControlWord :=
  markLast (markSelect (rowSelect (shapeOf op)) (microProgram (shapeOf op) bank))

/-! ### The store -/

/-- `ROM[op][bank][step]` (R180, R190): the word of a used step, and the zero word beyond them. -/
def romWord (op : Byte) (bank : Bool) (step : BitVec 5) : Word32 :=
  ((bankProgram op bank)[step.toNat]?.map ControlWord.encode).getD 0x00000000

/-- The store's address of a word: opcode, bank, step, from the top (R70). -/
def romAddress (op : Byte) (bank : Bool) (step : BitVec 5) : RomAddr := op ++ BitVec.ofBool bank ++ step

/-- The control store as its address lines see it (R70, R180): a constant (R25). -/
def controlStore (a : RomAddr) : Word32 := romWord (a.extractLsb' 6 8) (a.getLsbD 5) (a.extractLsb' 0 5)

/-- The flat index of a word (R70, R180). -/
def flatIndex (op : Byte) (bank : Bool) (step : BitVec 5) : Nat := op.toNat * 64 + bank.toNat * 32 + step.toNat

/-- The 32 words of a bank of any store, decoded. -/
def bankOf (rom : RomAddr → Word32) (op : Byte) (bank : Bool) : List ControlWord :=
  (List.range 32).map fun k => ControlWord.decode (rom (romAddress op bank (BitVec.ofNat 5 k)))

/-! ### The validator -/

/-- The validator's check (R198): step 0 of both banks of a row is FETCH. -/
def rowAligned (rom : RomAddr → Word32) (op : Byte) : Bool :=
  rom (romAddress op false 0) == fetch.encode && rom (romAddress op true 0) == fetch.encode

/-- The validator (R198, R351): the first opcode whose row fails, in opcode order; none where the table passes. -/
def validate (rom : RomAddr → Word32) : Option Nat :=
  (List.range 256).find? fun k => !rowAligned rom (BitVec.ofNat 8 k)

end Sys2Proof.Machine
end

