-- ==== Sys2Proof/Machine/Sequencer.lean ====
section
/-! DEFINITION. The sequencer (spec/43_sequencer_and_rom.md R181 to R189, R199): the bank select, one clock, and the run of
clocks from an instruction boundary to the next. The control store is an argument (spec/10_state.md R25). -/

namespace Sys2Proof.Machine

/-- BANK (R184): the condition of the opcode in IR for the 24 conditional opcodes, 0 for the others. -/
def State.bankSelect (s : State) : Bool := isConditional s.ir && s.holds (Cond.ofField (opMid s.ir))

/-- The control word of this clock (R181). -/
def State.currentWord (rom : RomAddr → Word32) (s : State) : ControlWord :=
  ControlWord.decode (rom (romAddress s.ir s.bankSelect s.step))

/-- The word of this clock lies after its bank's last step (R192, R199). -/
def State.inPadding (rom : RomAddr → Word32) (s : State) : Bool :=
  (List.range s.step.toNat).any fun k =>
    (ControlWord.decode (rom (romAddress s.ir s.bankSelect (BitVec.ofNat 5 k)))).last

/-- One clock over a control store (R181), with the two reports of R199. Padding is tested first, an order the spec does not
give (DESIGN CHOICE, notes/assumptions/19.md). -/
def clockWith (rom : RomAddr → Word32) (s : State) : Result :=
  let f := s.currentWord rom
  if s.inPadding rom then .fault .paddingDispatched
  else if s.step = 31 ∧ f.last = false then .fault .ranOffBank
  else .next (microStep f s)

/-- One clock of the machine: the control store is the one the table builder fills (R25, R190). -/
def clock (s : State) : Result := clockWith controlStore s

/-- `n` clocks, stopping at the first fault. -/
def runClocks (n : Nat) (s : State) : Result :=
  match n with
  | 0 => .next s
  | n + 1 =>
    match clock s with
    | .next s' => runClocks n s'
    | .fault r => .fault r
    | .refused r => .refused r

/-- Clocks up to and including the first that ends at an instruction boundary, at most `fuel` (R188). -/
def clocksToBoundary (fuel : Nat) (s : State) : Result :=
  match fuel with
  | 0 => .next s
  | fuel + 1 =>
    match clock s with
    | .next s' => if s'.step = 0 then .next s' else clocksToBoundary fuel s'
    | .fault r => .fault r
    | .refused r => .refused r

/-- The micro level's macro-instruction step (R8, R188): clocks up to the next boundary. A bank has 32 steps, so 32
clocks reach it. -/
def microInstruction (s : State) : Result := clocksToBoundary 32 s

/-- The memory accesses of `n` clocks, in order (R48). -/
def clockAccesses (n : Nat) (s : State) : List Access :=
  match n with
  | 0 => []
  | n + 1 =>
    match clock s with
    | .next s' => microAccesses (s.currentWord controlStore) s ++ clockAccesses n s'
    | .fault _ => []
    | .refused _ => []

end Sys2Proof.Machine
end

