-- ==== Sys2Proof/Machine/Step.lean ====
section
/-! DEFINITION. One step of the machine: a macro instruction (spec/00_scope.md R8, spec/43_sequencer_and_rom.md R188;
notes/assumptions/6.md). -/

namespace Sys2Proof.Machine

/-- One step: at an instruction boundary, the instruction at PC; within an instruction, the clocks that finish it. -/
def step (s : State) : Host.Outcome State Fault Refusal :=
  if s.step = 0 then exec s.fetchInstr s else microInstruction s

/-- `s` with an instruction word of spec/opcode_table.json where `step` fetches next (notes/assumptions/5.md). -/
def State.withFetchWord (s : State) (nbits w : Nat) : State := s.placeWord nbits w

end Sys2Proof.Machine
end

