-- ==== Sys2Proof/Machine/Timing.lean ====
section
/-! DEFINITION. What the instruction rules document beside the net effect: the step count of every instruction
(spec/70_reset_and_hazards.md R366) and its memory accesses in order (the "Memory accesses" of spec/44_data_transfer.md to
spec/48_stack_io_control.md). Both are written from the rules, not from the micro-programs. -/

namespace Sys2Proof.Machine

/-- The step count of an instruction (R366), `taken` being whether its condition holds. -/
def stepCount (sh : Shape) (taken : Bool) : Nat :=
  match sh with
  | .hlt => 2
  | .nop | .undoc _ | .daa | .pchl => 3
  | .rcc _ => if taken then 7 else 3
  | .movRR _ _ | .movRM _ | .movMR _ | .accR _ _ | .accM _ | .inrR _ | .dcrR _ => 4
  | .rrc | .ral | .rar | .stc | .cmc | .xchg | .ei | .di => 4
  | .rlc | .inrM | .dcrM | .inx _ | .dcx _ | .sphl | .inPort | .outPort => 5
  | .mviR _ | .accI _ | .ldax _ | .stax _ | .cma => 6
  | .mviM | .ret => 7
  | .jcc _ => if taken then 8 else 7
  | .jmp => 8
  | .lxi _ | .dad _ | .push _ | .pushPsw | .pop _ | .popPsw => 9
  | .lda | .sta => 10
  | .rst _ => 11
  | .lhld | .shld | .xthl => 13
  | .ccc _ => if taken then 17 else 7
  | .call => 17

/-- Whether the condition of a conditional instruction holds; of the others it does not matter (R184). -/
def State.takes (s : State) : Shape → Bool
  | .rcc cc | .jcc cc | .ccc cc => s.holds cc
  | _ => false

/-- A read as the state answers it. -/
def State.reads (s : State) (a : Addr) : Access := .read a (s.readByte a)

/-- The reads of the opcode and of the first `n - 1` operand bytes. -/
def State.codeReads (s : State) (n : Nat) : List Access := (List.range n).map fun k => s.reads (s.pc + BitVec.ofNat 16 k)

/-- The two stack writes of a word, high byte first (R280, R300, R310). -/
def State.pushes (s : State) (v : Addr) : List Access := [.write (s.sp - 1) (hiByte v), .write (s.sp - 2) (loByte v)]

/-- The two stack reads of a word, low byte first (R290, R312). -/
def State.pops (s : State) : List Access := [s.reads s.sp, s.reads (s.sp + 1)]

/-- The memory accesses of the instruction at PC, in order, as its rule documents them. -/
def documentedAccesses (sh : Shape) (s : State) : List Access :=
  let a16 := s.readWord (s.pc + 1)
  match sh with
  | .movRR _ _ | .hlt | .xchg | .accR _ _ | .inrR _ | .dcrR _ | .inx _ | .dcx _ | .dad _ | .daa | .rlc | .rrc | .ral | .rar
  | .cma | .stc | .cmc | .pchl | .sphl | .inPort | .outPort | .ei | .di | .nop | .undoc _ => s.codeReads 1
  | .movRM _ | .accM _ => s.codeReads 1 ++ [s.reads s.hl]
  | .movMR src => s.codeReads 1 ++ [.write s.hl (s.getReg src)]
  | .mviR _ | .accI _ => s.codeReads 2
  | .mviM => s.codeReads 2 ++ [.write s.hl (s.readByte (s.pc + 1))]
  | .lxi _ | .jmp => s.codeReads 3
  | .lda => s.codeReads 3 ++ [s.reads a16]
  | .lhld => s.codeReads 3 ++ [s.reads a16, s.reads (a16 + 1)]
  | .shld => s.codeReads 3 ++ [.write a16 s.l, .write (a16 + 1) s.h]
  | .sta => s.codeReads 3 ++ [.write a16 s.a]
  | .ldax p => s.codeReads 1 ++ [s.reads (s.getPair p.pair)]
  | .stax p => s.codeReads 1 ++ [.write (s.getPair p.pair) s.a]
  | .inrM => s.codeReads 1 ++ [s.reads s.hl, .write s.hl (s.readByte s.hl + 1)]
  | .dcrM => s.codeReads 1 ++ [s.reads s.hl, .write s.hl (s.readByte s.hl - 1)]
  | .jcc cc => if s.holds cc then s.codeReads 3 else s.codeReads 1
  | .call => s.codeReads 3 ++ s.pushes (s.pc + 3)
  | .ccc cc => if s.holds cc then s.codeReads 3 ++ s.pushes (s.pc + 3) else s.codeReads 1
  | .ret | .pop _ | .popPsw => s.codeReads 1 ++ s.pops
  | .rcc cc => if s.holds cc then s.codeReads 1 ++ s.pops else s.codeReads 1
  | .rst _ => s.codeReads 1 ++ s.pushes (s.pc + 1)
  | .push p => s.codeReads 1 ++ s.pushes (s.getPair p.pair)
  | .pushPsw => s.codeReads 1 ++ s.pushes (pairOf s.a s.flagByte)
  | .xthl =>
    s.codeReads 1
      ++ [s.reads s.sp, .write s.sp s.l, s.reads (s.sp + 1), .write (s.sp + 1) s.h]

end Sys2Proof.Machine
end

