-- ==== Sys2Proof/Safety.lean ====
section
/-! DEFINITION. The terms that claims about the machine use: runs, safe runs, the stubs (spec/30_encoding.md R78), what an
instruction may change (spec/10_state.md R18, R19; the memory accesses of spec/44_data_transfer.md to
spec/48_stack_io_control.md), the part of the state a program can see (spec/43_sequencer_and_rom.md R188), and the
invariant of instruction boundaries. -/

namespace Sys2Proof.Machine

/-! ### Runs -/

/-- `n` steps lead from `s` to `t`, none of them a fault or a refusal. -/
def Runs (n : Nat) (s t : State) : Prop := Sys2Proof.core.run n s = .next t

/-- A run of `n` steps that does not stop. -/
def SafeRun (n : Nat) (s : State) : Prop := ∃ t, Runs n s t

/-- A state that some run from `s` reaches. -/
def Reaches (s t : State) : Prop := ∃ n, Runs n s t

/-- What every instruction boundary of a run satisfies: STEP is 0 and memory has its canonical form. -/
def State.Inv (s : State) : Prop := s.step = 0 ∧ s.mem.wf

/-! ### Stubs -/

/-- The opcodes whose rows do not implement the 8080 behaviour (R78): a program that executes one rests on the spec's own
decision, or for the parity conditionals on a constant the spec leaves open (notes/assumptions/3.md, 4.md). -/
def isStubShape : Shape → Bool
  | .undoc _ | .daa | .inPort | .outPort => true
  | .rcc cc | .jcc cc | .ccc cc => cc = .po ∨ cc = .pe
  | .movRR _ _ | .movRM _ | .movMR _ | .hlt | .mviR _ | .mviM | .lxi _ | .lda | .lhld | .shld | .sta | .ldax _ | .stax _
  | .xchg | .accR _ _ | .accM _ | .accI _ | .inrR _ | .inrM | .dcrR _ | .dcrM | .inx _ | .dcx _ | .dad _ | .rlc | .rrc
  | .ral | .rar | .cma | .stc | .cmc | .jmp | .call | .ret | .rst _ | .pchl | .push _ | .pushPsw | .pop _ | .popPsw
  | .xthl | .sphl | .ei | .di | .nop => false

/-- The instruction is a stub. -/
def isStub (i : Instr) : Bool := isStubShape (shapeOf i.opcode)

/-- A run of `n` steps that executes no stub: the runs that claims about programs should be made of (R78, R199). -/
def StubFree (n : Nat) (s : State) : Prop := ∀ k < n, ∀ t, Runs k s t → isStub t.fetchInstr = false

/-! ### What an instruction may change -/

/-- The macro instructions that write CY (R18). -/
def writesCarry : Shape → Bool
  | .accR _ _ | .accM _ | .accI _ | .rlc | .rrc | .ral | .rar | .dad _ | .stc | .cmc | .popPsw => true
  | .movRR _ _ | .movRM _ | .movMR _ | .hlt | .mviR _ | .mviM | .lxi _ | .lda | .lhld | .shld | .sta | .ldax _ | .stax _
  | .xchg | .inrR _ | .inrM | .dcrR _ | .dcrM | .inx _ | .dcx _ | .daa | .cma | .jmp | .jcc _ | .call | .ccc _ | .ret
  | .rcc _ | .rst _ | .pchl | .push _ | .pushPsw | .pop _ | .xthl | .sphl | .inPort | .outPort | .ei | .di | .nop
  | .undoc _ => false

/-- The macro instructions that write Z and S (R19). -/
def writesZS : Shape → Bool
  | .accR _ _ | .accM _ | .accI _ | .inrR _ | .inrM | .dcrR _ | .dcrM | .popPsw => true
  | .movRR _ _ | .movRM _ | .movMR _ | .hlt | .mviR _ | .mviM | .lxi _ | .lda | .lhld | .shld | .sta | .ldax _ | .stax _
  | .xchg | .inx _ | .dcx _ | .dad _ | .daa | .rlc | .rrc | .ral | .rar | .cma | .stc | .cmc | .jmp | .jcc _ | .call
  | .ccc _ | .ret | .rcc _ | .rst _ | .pchl | .push _ | .pushPsw | .pop _ | .xthl | .sphl | .inPort | .outPort | .ei | .di
  | .nop | .undoc _ => false

/-- The registers that an instruction of a shape writes (the net effects of R200 to R322). -/
def destinations : Shape → List Reg
  | .movRR dst _ | .movRM dst | .mviR dst | .inrR dst | .dcrR dst => [dst]
  | .lda | .ldax _ | .rlc | .rrc | .ral | .rar | .cma | .popPsw => [.a]
  | .accR op _ | .accM op | .accI op => if op = .cmp then [] else [.a]
  | .lhld | .dad _ | .xthl => [.h, .l]
  | .xchg => [.h, .l, .d, .e]
  | .lxi p | .inx p | .dcx p =>
    match p with
    | .bc => [.b, .c]
    | .de => [.d, .e]
    | .hl => [.h, .l]
    | .sp => []
  | .pop p =>
    match p with
    | .bc => [.b, .c]
    | .de => [.d, .e]
    | .hl => [.h, .l]
  | .movMR _ | .hlt | .mviM | .shld | .sta | .stax _ | .inrM | .dcrM | .daa | .stc | .cmc | .jmp | .jcc _ | .call | .ccc _
  | .ret | .rcc _ | .rst _ | .pchl | .push _ | .pushPsw | .sphl | .inPort | .outPort | .ei | .di | .nop | .undoc _ => []

/-- The 16-bit operand of an instruction of three bytes, from its encoding (R72). -/
def operand16 (i : Instr) : Addr := pairOf ((encode i).getD 2 0) ((encode i).getD 1 0)

/-- The addresses that an instruction stores to, each one byte, computed as its meaning computes them. -/
def storeAddresses (i : Instr) (s : State) : List Addr :=
  match shapeOf i.opcode with
  | .movMR _ | .mviM | .inrM | .dcrM => [s.hl]
  | .stax p => [s.getPair p.pair]
  | .sta => [operand16 i]
  | .shld => [operand16 i, operand16 i + 1]
  | .call | .rst _ | .push _ | .pushPsw => [s.sp - 1, s.sp - 2]
  | .ccc cc => if s.holds cc then [s.sp - 1, s.sp - 2] else []
  | .xthl => [s.sp, s.sp + 1]
  | .movRR _ _ | .movRM _ | .hlt | .mviR _ | .lxi _ | .lda | .lhld | .ldax _ | .xchg | .accR _ _ | .accM _ | .accI _
  | .inrR _ | .dcrR _ | .inx _ | .dcx _ | .dad _ | .daa | .rlc | .rrc | .ral | .rar | .cma | .stc | .cmc | .jmp | .jcc _
  | .ret | .rcc _ | .pchl | .pop _ | .popPsw | .sphl | .inPort | .outPort | .ei | .di | .nop | .undoc _ => []

/-! ### What a step leaves -/

/-- Every register but the listed ones is unchanged. -/
def KeepsRegs (s t : State) (dests : List Reg) : Prop := ∀ r, r ∉ dests → t.getReg r = s.getReg r

/-- CY, Z and S are unchanged. -/
def KeepsFlags (s t : State) : Prop := t.cy = s.cy ∧ t.zf = s.zf ∧ t.sf = s.sf

/-- Every byte of memory outside the listed addresses is unchanged. -/
def KeepsMemory (s t : State) (stored : List Addr) : Prop := ∀ x, x ∉ stored → t.readByte x = s.readByte x

/-- `i` completes from `s` in `t`: the boundary after it, IR holding its opcode, CHAIN as given (R188, R365). -/
def Completes (i : Instr) (s t : State) (chain : Bool) : Prop :=
  exec i s = .next t ∧ t.step = 0 ∧ t.ir = i.opcode ∧ t.chain = chain

/-! ### What a program can see -/

/-- The state with everything a program cannot see at an instruction boundary set to 0: MAH, MAL, IR and CHAIN (R188,
R365). -/
def State.visible (s : State) : State := { s with mah := 0, mal := 0, ir := 0, chain := false }

end Sys2Proof.Machine
end

