-- ==== Sys2Proof/Certificates/Slice0/Obligations.lean ====
section
/-! DEFINITION. The statements for the provers. Each docstring names the rules of spec/ it formalises. Where a condition is
read through `State.holds`, `BankSelectRule` says what it is. A statement about every opcode counts the stubs of R78 in:
that they run, where R78, R186 and R199 advise a model to refuse them, is the model's choice (notes/assumptions/3.md for
the parity conditionals, notes/assumptions/4.md for the others). -/

open Sys2Proof Sys2Proof.Machine

/-! ### Encoding -/

/-- R71, R72, R75: decoding the bytes of any instruction, with any bytes after it, gives the instruction and those bytes. -/
def Obligations.DecodeAfterEncode : Prop :=
  ∀ (i : Instr) (rest : List Byte), decode (encode i ++ rest) = .ok (i, rest)

/-- R75, R79: every opcode byte is the opcode of the instruction it decodes to, and the operand bytes that belong to it are
those that follow. -/
def Obligations.EncodeAfterDecode : Prop :=
  ∀ op lo hi : Byte, encode (decode3 op lo hi) = [op, lo, hi].take (instrLength op)

/-- R79: the length of an instruction by the pattern of its opcode byte. -/
def Obligations.OpcodeLengths : Prop :=
  ∀ op : Byte, instrLength op =
    if op &&& 0xCF = 0x01 ∨ op ∈ [0x22, 0x2A, 0x32, 0x3A] ∨ op &&& 0xC7 = 0xC2 ∨ op = 0xC3 ∨ op &&& 0xC7 = 0xC4 ∨ op = 0xCD
    then 3
    else if op &&& 0xC7 = 0x06 ∨ op &&& 0xC7 = 0xC6 ∨ op = 0xDB ∨ op = 0xD3 then 2
    else 1

/-- R75: words written out from the opcode map decode to the instructions they stand for, one or more of each family. -/
def Obligations.SampleWordsDecode : Prop :=
  decode [0b01001000] = .ok (.movCB, []) ∧ decode [0b01110110] = .ok (.hlt, [])
    ∧ decode [0b00000001, 0x34, 0x12] = .ok (.lxiB 0x1234, []) ∧ decode [0b10010110] = .ok (.subM, [])
    ∧ decode [0b00110101] = .ok (.dcrM, []) ∧ decode [0b00011111] = .ok (.rar, [])
    ∧ decode [0b11000010, 0x34, 0x12] = .ok (.jnz 0x1234, []) ∧ decode [0b11101111] = .ok (.rst5, [])
    ∧ decode [0b11110101] = .ok (.pushPsw, []) ∧ decode [0b11111011] = .ok (.ei, [])

/-! ### Control words -/

/-- R61: the encoder's formula, the decoder's slices, and that each undoes the other, on every field tuple and every
32-bit word; and the rule's example. -/
def Obligations.ControlWordCodec : Prop :=
  (∀ f : ControlWord, f.encode =
      f.src.code.setWidth 32 ||| f.dst.code.setWidth 32 <<< 4 ||| f.adr.code.setWidth 32 <<< 8
        ||| f.alu.code.setWidth 32 <<< 10 ||| (BitVec.ofBool f.ccap).setWidth 32 <<< 14
        ||| (BitVec.ofBool f.zscap).setWidth 32 <<< 15 ||| f.csel.code.setWidth 32 <<< 16
        ||| (BitVec.ofBool f.cset).setWidth 32 <<< 19 ||| (BitVec.ofBool f.ccpl).setWidth 32 <<< 20
        ||| (BitVec.ofBool f.swap).setWidth 32 <<< 21 ||| (BitVec.ofBool f.ei).setWidth 32 <<< 22
        ||| (BitVec.ofBool f.di).setWidth 32 <<< 23 ||| f.rsv.setWidth 32 <<< 24
        ||| (BitVec.ofBool f.last).setWidth 32 <<< 31)
  ∧ (∀ w : Word32, let f := ControlWord.decode w
      f.src.code = w.extractLsb' 0 4 ∧ f.dst.code = w.extractLsb' 4 4 ∧ f.adr.code = w.extractLsb' 8 2
        ∧ f.alu.code = w.extractLsb' 10 4 ∧ f.ccap = w.getLsbD 14 ∧ f.zscap = w.getLsbD 15
        ∧ f.csel.code = w.extractLsb' 16 3 ∧ f.cset = w.getLsbD 19 ∧ f.ccpl = w.getLsbD 20 ∧ f.swap = w.getLsbD 21
        ∧ f.ei = w.getLsbD 22 ∧ f.di = w.getLsbD 23 ∧ f.rsv = w.extractLsb' 24 7 ∧ f.last = w.getLsbD 31)
  ∧ (∀ f : ControlWord, ControlWord.decode f.encode = f)
  ∧ (∀ w : Word32, (ControlWord.decode w).encode = w)
  ∧ ({ src := .m, dst := .ir, adr := .pc } : ControlWord).encode = 0x000001F6

/-- R67: the datapath does not see the reserved bits, and every word of the control store has them 0. -/
def Obligations.ReservedBitsIgnored : Prop :=
  (∀ (f : ControlWord) (r : BitVec 7) (s : State), microStep { f with rsv := r } s = microStep f s)
  ∧ (∀ w r s, microStepWord (w &&& 0x80FFFFFF ||| (r : BitVec 7).setWidth 32 <<< 24) s = microStepWord w s)
  ∧ ∀ a : RomAddr, (controlStore a).extractLsb' 24 7 = 0

/-! ### The ALU -/

/-- R103 to R106, R109 to R112, R116: the results and carry-outs of the arithmetic operations, in the integers. -/
def Obligations.AluArithmetic : Prop :=
  ∀ (a x : Byte) (cy ch : Bool),
    (let r := alu .incl a x cy ch; r.1.toNat = (x.toNat + 1) % 256 ∧ r.2 = decide (x.toNat = 255))
    ∧ (let r := alu .inch a x cy ch
       r.1.toNat = (x.toNat + ch.toNat) % 256 ∧ r.2 = decide (256 ≤ x.toNat + ch.toNat))
    ∧ (let r := alu .decl a x cy ch; r.1.toNat = (x.toNat + 255) % 256 ∧ r.2 = decide (x.toNat = 0))
    ∧ (let r := alu .dech a x cy ch
       r.1.toNat = (x.toNat + 256 - ch.toNat) % 256 ∧ r.2 = decide (x.toNat < ch.toNat))
    ∧ (let r := alu .add a x cy ch
       r.1.toNat = (a.toNat + x.toNat) % 256 ∧ r.2 = decide (256 ≤ a.toNat + x.toNat))
    ∧ (let r := alu .adc a x cy ch
       r.1.toNat = (a.toNat + x.toNat + cy.toNat) % 256 ∧ r.2 = decide (256 ≤ a.toNat + x.toNat + cy.toNat))
    ∧ (let r := alu .sub a x cy ch
       r.1.toNat = (a.toNat + 256 - x.toNat) % 256 ∧ r.2 = decide (a.toNat < x.toNat))
    ∧ (let r := alu .sbb a x cy ch
       r.1.toNat = (a.toNat + 512 - (x.toNat + cy.toNat)) % 256 ∧ r.2 = decide (a.toNat < x.toNat + cy.toNat))
    ∧ alu .cmp a x cy ch = alu .sub a x cy ch

/-- R101, R102, R107, R108, R113 to R115: the operations that work bit by bit. -/
def Obligations.AluBits : Prop :=
  ∀ (a x : Byte) (cy ch : Bool),
    alu .byp a x cy ch = (x, false) ∧ alu .zero a x cy ch = (0x00, false)
    ∧ (let r := alu .rar a x cy ch
       r.2 = x.getLsbD 0 ∧ ∀ i < 8, r.1.getLsbD i = if i = 7 then cy else x.getLsbD (i + 1))
    ∧ (let r := alu .rrc a x cy ch
       r.2 = x.getLsbD 0 ∧ ∀ i < 8, r.1.getLsbD i = if i = 7 then x.getLsbD 0 else x.getLsbD (i + 1))
    ∧ (let r := alu .and a x cy ch; r.2 = false ∧ ∀ i, r.1.getLsbD i = (a.getLsbD i && x.getLsbD i))
    ∧ (let r := alu .xor a x cy ch; r.2 = false ∧ ∀ i, r.1.getLsbD i = (a.getLsbD i != x.getLsbD i))
    ∧ (let r := alu .or a x cy ch; r.2 = false ∧ ∀ i, r.1.getLsbD i = (a.getLsbD i || x.getLsbD i))

/-- R118: the six identities. A word of 16 bits is the pair of its halves. -/
def Obligations.AluIdentities : Prop :=
  (∀ a cy ch, alu .adc a a cy ch = (a.extractLsb' 0 7 ++ BitVec.ofBool cy, a.getLsbD 7))
  ∧ (∀ (a : Byte) (cy ch : Bool), let r := alu .add a a cy ch
      (alu .inch a r.1 cy r.2).1 = a.rotateLeft 1 ∧ r.2 = a.getLsbD 7)
  ∧ (∀ a x cy ch, (alu .decl a (alu .zero a x cy ch).1 cy ch).1 = 0xFF)
  ∧ (∀ (v : Addr) (a : Byte) (cy ch : Bool), let r := alu .incl a (loByte v) cy ch
      pairOf (alu .inch a (hiByte v) cy r.2).1 r.1 = v + 1)
  ∧ (∀ (v : Addr) (a : Byte) (cy ch : Bool), let r := alu .decl a (loByte v) cy ch
      pairOf (alu .dech a (hiByte v) cy r.2).1 r.1 = v - 1)
  ∧ (∀ (v u : Addr) (cy ch ch' : Bool), let r := alu .add (loByte v) (loByte u) cy ch
      let r' := alu .adc (hiByte v) (hiByte u) r.2 ch'
      pairOf r'.1 r.1 = v + u ∧ r'.2 = decide (65536 ≤ v.toNat + u.toNat))

/-! ### One micro-step -/

/-- R126 to R133: CHAIN, the two captures, carry set and complement, register swap, interrupt enable and disable, for every
word and every state; where two of them write the same flag the priority order of R121 decides. -/
def Obligations.MicroStepCommits : Prop :=
  ∀ (f : ControlWord) (s : State),
    let out := (s.aluOutput f).1
    let cout := (s.aluOutput f).2
    let toFlags := f.alu ≠ .cmp ∧ f.dst = .flags
    let t := microStep f s
    t.chain = cout
    ∧ ((f.alu = .byp ∨ f.alu = .zero ∨ f.alu = .and ∨ f.alu = .xor ∨ f.alu = .or) → t.chain = false)
    ∧ t.cy =
        (let c1 := if toFlags then out.getLsbD 0 else s.cy
         let c2 := if f.ccap then cout else c1
         let c3 := if f.cset then true else c2
         if f.ccpl then !c3 else c3)
    ∧ t.zf = (if f.zscap then decide (out = 0x00) else if toFlags then out.getLsbD 6 else s.zf)
    ∧ t.sf = (if f.zscap then out.getLsbD 7 else if toFlags then out.getLsbD 7 else s.sf)
    ∧ t.inte = (if f.di then false else if f.ei then true else s.inte)
    ∧ (let u := microStep { f with swap := false } s
       t = if f.swap then { u with h := u.d, l := u.e, d := u.h, e := u.l } else u)

/-- R125, R134: the destination latch and the step counter. A word without register swap writes the ALU output to its
destination and nowhere else, and under compare nowhere at all; STEP goes to 0 under LAST and else counts. -/
def Obligations.MicroStepLatch : Prop :=
  ∀ (f : ControlWord) (s : State),
    let out := (s.aluOutput f).1
    let t := microStep { f with swap := false } s
    (∀ k : Sel, k ≠ .m → k ≠ .flags → ∀ x,
        t.source k x = if f.alu ≠ .cmp ∧ k = f.dst then out else s.source k x)
    ∧ (∀ x : Addr, t.readByte x = if f.alu ≠ .cmp ∧ f.dst = .m ∧ x = s.address f.adr then out else s.readByte x)
    ∧ t.step = (if f.last then 0 else s.step + 1)

/-- R137: an inert word changes CHAIN and STEP only, and clears CHAIN; the zero word is one. -/
def Obligations.InertWords : Prop :=
  (∀ (f : ControlWord) (s : State), f.src = f.dst → f.src ≠ .m → f.alu = .byp →
      (f.csel ≠ .rstv ∨ s.source f.src (s.address f.adr) &&& 0x38 = s.source f.src (s.address f.adr)) →
      f.ccap = false → f.zscap = false → f.cset = false → f.ccpl = false → f.swap = false → f.ei = false → f.di = false →
      microStep f s = { s with chain := false, step := if f.last then 0 else s.step + 1 })
  ∧ ∀ s : State, microStepWord 0x00000000 s = { s with chain := false, step := s.step + 1 }

/-- R173 to R176: the two words of each idiom, and that together they advance or retreat the 16-bit pair by one, leave the
carry of the 16-bit sum in CHAIN and change nothing else but STEP. -/
def Obligations.TwoStepIdioms : Prop :=
  (MicroOp.adv.map ControlWord.encode = [0x00000899, 0x00000C88]
    ∧ MicroOp.spInc.map ControlWord.encode = [0x000008BB, 0x00000CAA]
    ∧ MicroOp.spDec.map ControlWord.encode = [0x000010BB, 0x000014AA]
    ∧ MicroOp.maInc.map ControlWord.encode = [0x000008DD, 0x00000CCC])
  ∧ ∀ s : State,
    (microStepWord 0x00000C88 (microStepWord 0x00000899 s) =
      { s with pch := hiByte (s.pc + 1), pcl := loByte (s.pc + 1), chain := (s.pc == 0xFFFF), step := s.step + 2 })
    ∧ (microStepWord 0x00000CAA (microStepWord 0x000008BB s) =
      { s with sph := hiByte (s.sp + 1), spl := loByte (s.sp + 1), chain := (s.sp == 0xFFFF), step := s.step + 2 })
    ∧ (microStepWord 0x000014AA (microStepWord 0x000010BB s) =
      { s with sph := hiByte (s.sp - 1), spl := loByte (s.sp - 1), chain := (s.sp == 0x0000), step := s.step + 2 })
    ∧ (microStepWord 0x00000CCC (microStepWord 0x000008DD s) =
      { s with mah := hiByte (s.ma + 1), mal := loByte (s.ma + 1), chain := (s.ma == 0xFFFF), step := s.step + 2 })

/-! ### The control store -/

/-- R191: step 0 of both banks of every opcode is FETCH. -/
def Obligations.FetchAtStepZero : Prop :=
  ∀ (op : Byte) (bank : Bool), controlStore (romAddress op bank 0) = 0x000001F6

/-- R192: in every bank exactly one word has LAST, at step `n - 1 >= 1` with `2 <= n <= 17`; every word before it is not
zero and has no LAST; every word after it is zero. -/
def Obligations.OneLastWord : Prop :=
  ∀ (op : Byte) (bank : Bool), ∃ n : Nat, 2 ≤ n ∧ n ≤ 17 ∧ ∀ k : BitVec 5,
    let w := controlStore (romAddress op bank k)
    (k.toNat + 1 < n → w ≠ 0x00000000 ∧ w.getLsbD 31 = false)
    ∧ (k.toNat + 1 = n → w.getLsbD 31 = true)
    ∧ (n < k.toNat + 1 → w = 0x00000000)

/-- R193: the banks of the 232 opcodes that are not Rcc, Jcc or Ccc hold the same words. -/
def Obligations.UnconditionalBanksEqual : Prop :=
  ((List.range 256).filter fun k => let op : Byte := BitVec.ofNat 8 k
      op &&& 0xC7 ≠ 0xC0 ∧ op &&& 0xC7 ≠ 0xC2 ∧ op &&& 0xC7 ≠ 0xC4).length = 232
  ∧ ∀ (op : Byte) (k : BitVec 5), op &&& 0xC7 ≠ 0xC0 → op &&& 0xC7 ≠ 0xC2 → op &&& 0xC7 ≠ 0xC4 →
    controlStore (romAddress op false k) = controlStore (romAddress op true k)

/-- R194: in the rows of Rcc, Jcc and Ccc the banks differ; bank 0 is the fetch and the advances over the instruction's
bytes, 3 steps for Rcc and 7 for Jcc and Ccc; bank 1 is, apart from the condition select, the micro-program of RET, JMP or
CALL, 7, 8 and 17 steps; the parity rows carry no condition select. -/
def Obligations.ConditionalBanks : Prop :=
  let bare := fun (op : Byte) (bank : Bool) =>
    (bankOf controlStore op bank).map fun f => { f with csel := .none }
  let steps := fun (op : Byte) (bank : Bool) => (bankOf controlStore op bank).findIdx (fun f => f.last) + 1
  let skip := fun n : Nat => MicroOp.fetch :: (List.replicate n MicroOp.adv).flatten
  (∀ n : BitVec 3, ∀ op ∈ [0xC0 + n.setWidth 8 <<< 3, 0xC2 + n.setWidth 8 <<< 3, 0xC4 + n.setWidth 8 <<< 3],
      bankOf controlStore op false ≠ bankOf controlStore op true
      ∧ ((n = 4 ∨ n = 5) → ∀ f ∈ bankOf controlStore op false ++ bankOf controlStore op true, f.csel = .none))
  ∧ ∀ n : BitVec 3,
    let rcc : Byte := 0xC0 + n.setWidth 8 <<< 3
    let jcc : Byte := 0xC2 + n.setWidth 8 <<< 3
    let ccc : Byte := 0xC4 + n.setWidth 8 <<< 3
    bare rcc true = bankOf controlStore 0xC9 true ∧ bare jcc true = bankOf controlStore 0xC3 true
    ∧ bare ccc true = bankOf controlStore 0xCD true
    ∧ bare rcc false = markLast (skip 1) ++ List.replicate 29 MicroOp.idle
    ∧ bare jcc false = markLast (skip 3) ++ List.replicate 25 MicroOp.idle
    ∧ bare ccc false = markLast (skip 3) ++ List.replicate 25 MicroOp.idle
    ∧ steps rcc false = 3 ∧ steps jcc false = 7 ∧ steps ccc false = 7
    ∧ steps rcc true = 7 ∧ steps jcc true = 8 ∧ steps ccc true = 17

/-- R187: at every step from 1 up to the last, the words of both banks of a conditional row carry the code of the row's
condition, and in every other row none does but RSTVEC; so at those steps BANK is the flag that the current word's
condition select names, and in the rows that name none it is 0 or the parity parameter. -/
def Obligations.ConditionSelectInvariant : Prop :=
  (∀ (op : Byte) (bank : Bool) (k : BitVec 5), k ≠ 0 →
      (∀ j : BitVec 5, j.toNat < k.toNat → (controlStore (romAddress op bank j)).getLsbD 31 = false) →
      let w := controlStore (romAddress op bank k)
      (ControlWord.decode w).csel =
        if op &&& 0xC7 = 0xC0 ∨ op &&& 0xC7 = 0xC2 ∨ op &&& 0xC7 = 0xC4 then (Cond.ofField (op.extractLsb' 3 3)).csel
        else if w = 0x8007009F then .rstv else .none)
  ∧ ∀ s : State, s.step ≠ 0 → s.inPadding controlStore = false →
      s.bankSelect =
        match (s.currentWord controlStore).csel with
        | .nz => !s.zf
        | .z => s.zf
        | .nc => !s.cy
        | .c => s.cy
        | .p => !s.sf
        | .m => s.sf
        | .rstv => false
        | .none =>
          if s.ir = 0xE0 ∨ s.ir = 0xE2 ∨ s.ir = 0xE4 then Config.parityBankPO
          else if s.ir = 0xE8 ∨ s.ir = 0xEA ∨ s.ir = 0xEC then Config.parityBankPE
          else false

/-- R69, R195: every row of the control store passes every check on words, banks and rows. -/
def Obligations.StoreWellFormed : Prop :=
  ∀ op : Byte, wellFormedRow op (bankOf controlStore op false) (bankOf controlStore op true) = true

/-- R198, R351: the validator passes the table that the builder fills; of any table, it reports the lowest opcode one of
whose banks does not begin with FETCH, and passes exactly the tables that have none. -/
def Obligations.ValidatorReports : Prop :=
  validate controlStore = none
  ∧ (∀ rom : RomAddr → Word32,
      validate rom = none ↔ ∀ (op : Byte) (bank : Bool), rom (romAddress op bank 0) = 0x000001F6)
  ∧ ∀ (rom : RomAddr → Word32) (op : Byte), validate rom = some op.toNat ↔
      (∃ bank, rom (romAddress op bank 0) ≠ 0x000001F6)
      ∧ ∀ (p : Byte) (bank : Bool), p.toNat < op.toNat → rom (romAddress p bank 0) = 0x000001F6

/-- R70, R180: the store's address is opcode, bank and step from the top, which is the flat index, and the word there is
the table's. -/
def Obligations.FlatIndexing : Prop :=
  ∀ (op : Byte) (bank : Bool) (k : BitVec 5),
    (romAddress op bank k).toNat = op.toNat * 64 + bank.toNat * 32 + k.toNat
    ∧ (romAddress op bank k).extractLsb' 6 8 = op ∧ (romAddress op bank k).getLsbD 5 = bank
    ∧ (romAddress op bank k).extractLsb' 0 5 = k
    ∧ controlStore (romAddress op bank k) = romWord op bank k

/-! ### The sequencer -/

/-- R184, R185, R186: the bank select, and the condition it tests for each of the eight condition codes. -/
def Obligations.BankSelectRule : Prop :=
  ∀ s : State,
    s.bankSelect =
      (if s.ir &&& 0xC7 = 0xC0 ∨ s.ir &&& 0xC7 = 0xC2 ∨ s.ir &&& 0xC7 = 0xC4 then
        s.holds (Cond.ofField (s.ir.extractLsb' 3 3)) else false)
    ∧ s.holds (Cond.ofField 0) = !s.zf ∧ s.holds (Cond.ofField 1) = s.zf ∧ s.holds (Cond.ofField 2) = !s.cy
    ∧ s.holds (Cond.ofField 3) = s.cy ∧ s.holds (Cond.ofField 4) = Config.parityBankPO
    ∧ s.holds (Cond.ofField 5) = Config.parityBankPE ∧ s.holds (Cond.ofField 6) = !s.sf
    ∧ s.holds (Cond.ofField 7) = s.sf

/-- R185: from step 1 of a conditional instruction on, a clock that does not end it changes neither IR nor BANK. -/
def Obligations.BankConstant : Prop :=
  ∀ s t : State, s.step ≠ 0 → isConditional s.ir = true → clock s = .next t → t.step ≠ 0 →
    t.ir = s.ir ∧ t.bankSelect = s.bankSelect

/-- R8, R188: the step of the machine is the run of clocks up to the next instruction boundary: at a boundary, the clocks
of the fetched opcode's micro-program have exactly the effect that the instruction's meaning gives, on the whole state. That
the stubs run is the model's choice (notes/assumptions/3.md and 4.md). -/
def Obligations.MicrocodeRefinesMeaning : Prop :=
  ∀ s : State, microInstruction s = step s

/-- R366: from a boundary, the run to the next one takes exactly the documented number of clocks. That the stubs run is the
model's choice (notes/assumptions/3.md and 4.md). -/
def Obligations.StepCounts : Prop :=
  ∀ s : State, s.step = 0 →
    let n := stepCount (shapeOf (s.readByte s.pc)) (s.takes (shapeOf (s.readByte s.pc)))
    runClocks n s = step s ∧ ∀ k, 0 < k → k < n → ∃ t, runClocks k s = .next t ∧ t.step.toNat = k

/-- The memory accesses of R200 to R322: the clocks of an instruction make exactly the accesses its rule documents,
in that order. That the stubs run is the model's choice (notes/assumptions/3.md and 4.md). -/
def Obligations.DocumentedAccesses : Prop :=
  ∀ s : State, s.step = 0 →
    let sh := shapeOf (s.readByte s.pc)
    clockAccesses (stepCount sh (s.takes sh)) s = documentedAccesses sh s

/-- R199 names the two reports; that a clock answers padding-dispatched exactly where the word it reads lies after the word
with LAST, and never at STEP 0, is its first. At STEP 31 both conditions of R199 hold in this store, and neither R199 nor
R134 nor D22 orders them: that padding is tested first, so that no clock over this store reports ran-off-bank, is the
model's own order (DESIGN CHOICE, notes/assumptions/19.md), and no rule of the spec. -/
def Obligations.PaddingReported : Prop :=
  ∀ s : State, clock s ≠ .fault .ranOffBank
    ∧ (clock s = .fault .paddingDispatched ↔
        ∃ k : BitVec 5, k.toNat < s.step.toNat ∧ (controlStore (romAddress s.ir s.bankSelect k)).getLsbD 31 = true)
    ∧ (s.step = 0 → clock s ≠ .fault .paddingDispatched)

/-! ### The step -/

/-- R8, R141: at a boundary, a step runs the instruction that the bytes at PC decode to. -/
def Obligations.StepRunsDecoded : Prop :=
  ∀ (s : State) (i : Instr) (rest : List Byte), s.step = 0 → decode s.fetchBytes = .ok (i, rest) → step s = exec i s

/-- The placed instruction is the one the next step runs, and placing it changes no register but STEP and no byte but the
three at PC (notes/assumptions/5.md). -/
def Obligations.PlacedWordRuns : Prop :=
  ∀ (s : State) (nbits w : Nat) (i : Instr), decodeTableWord nbits w = some i →
    let s' := s.withFetchWord nbits w
    step s' = exec i s' ∧ s' = { s with step := 0, mem := s'.mem }
    ∧ KeepsMemory s s' [s.pc, s.pc + 1, s.pc + 2]

/-- R188, R199, R340: the invariant of instruction boundaries. From every boundary whose memory has its canonical form a
step completes, without a fault or a refusal, at such a boundary. R199 and R78 advise a model to refuse the stub opcodes,
and R186 the parity conditionals: that those complete as well, and none is refused, is the model's choice and no rule of
the spec (DESIGN CHOICE, notes/assumptions/3.md and notes/assumptions/4.md). -/
def Obligations.BoundaryInvariant : Prop :=
  ∀ s : State, s.Inv → ∃ t, step s = .next t ∧ t.Inv

/-- The state right after reset satisfies the invariant (R29; the memory is notes/assumptions/2.md). -/
def Obligations.ResetInvariant : Prop := State.reset.Inv

/-- R29, R360, R361: asserting reset forces STEP, PC and INTE and nothing else; the first clock after it, from any state,
fetches from address 0; and the power-up state has the three forced values. -/
def Obligations.ResetFetches : Prop :=
  (∀ s : State, s.assertReset = { s with pch := 0x00, pcl := 0x00, step := 0, inte := false })
  ∧ (∀ s : State, clock s.assertReset =
      .next { s.assertReset with ir := s.readByte 0x0000, chain := false, step := 1 })
  ∧ State.reset.step = 0 ∧ State.reset.pc = 0x0000 ∧ State.reset.inte = false

/-! ### Rules about the whole machine -/

/-- R21, R341 (the latch of spec/10_state.md section 4): INTE is written by EI and DI and by no other instruction. -/
def Obligations.InteWriters : Prop :=
  ∀ (i : Instr) (s t : State), exec i s = .next t →
    t.inte = if i = .ei then true else if i = .di then false else s.inte

/-- R18, R19: CY is left alone by every instruction outside R18's list, Z and S by every one outside R19's. -/
def Obligations.FlagWriters : Prop :=
  ∀ (i : Instr) (s t : State), exec i s = .next t →
    (writesCarry (shapeOf i.opcode) = false → t.cy = s.cy)
    ∧ (writesZS (shapeOf i.opcode) = false → t.zf = s.zf ∧ t.sf = s.sf)

/-- R200 to R322: every instruction leaves every byte of memory alone but those at the addresses it stores to, computed
from its operands, and every register alone but its destinations. -/
def Obligations.InstructionFrame : Prop :=
  ∀ (i : Instr) (s t : State), exec i s = .next t →
    KeepsMemory s t (storeAddresses i s) ∧ KeepsRegs s t (destinations (shapeOf i.opcode))

/-- R365: no program can see MAH, MAL, IR or CHAIN: from two boundaries that differ in them only, a step leads to two
boundaries that differ in them only. That the stubs run is the model's choice (notes/assumptions/3.md and 4.md). -/
def Obligations.ScratchUnobservable : Prop :=
  ∀ s s' : State, s.step = 0 → s.visible = s'.visible →
    ∃ t t', step s = .next t ∧ step s' = .next t' ∧ t.visible = t'.visible

/-- R189, R320: a halted machine stays halted at the same PC with the same visible state, and from the second time round
the whole state is the same. -/
def Obligations.HaltForEver : Prop :=
  ∀ s : State, s.halted = true →
    ∃ t, step s = .next t ∧ t.halted = true ∧ t.pc = s.pc ∧ t.visible = s.visible ∧ step t = .next t

/-- R280, R290, R343, R344: a return undoes a call or a restart: it continues after the calling instruction, with SP as
before; flags, INTE and the registers are as they were. -/
def Obligations.CallThenReturn : Prop :=
  (∀ (a16 : Addr) (s : State), ∃ t u, exec (.call a16) s = .next t ∧ exec .ret t = .next u
      ∧ t.pc = a16 ∧ u.pc = s.pc + 3 ∧ u.sp = s.sp ∧ KeepsRegs s u [] ∧ KeepsFlags s u ∧ u.inte = s.inte)
  ∧ ∀ (n : BitVec 3) (s : State), ∃ t u, exec (.ofRst n) s = .next t ∧ exec .ret t = .next u
      ∧ t.pc.toNat = 8 * n.toNat ∧ u.pc = s.pc + 1 ∧ u.sp = s.sp ∧ KeepsRegs s u [] ∧ KeepsFlags s u ∧ u.inte = s.inte

/-- R310 to R313, R17: what PUSH stores POP restores: a register pair into any register pair, A and the three flags by
PSW. -/
def Obligations.PushThenPop : Prop :=
  (∀ (p q : StackPair) (s : State), ∃ t u, exec (.ofPush p) s = .next t ∧ exec (.ofPop q) t = .next u
      ∧ u.getPair q.pair = s.getPair p.pair ∧ u.sp = s.sp)
  ∧ ∀ s x : State, ∃ t u, exec .pushPsw s = .next t
      ∧ exec .popPsw { t with a := x.a, cy := x.cy, zf := x.zf, sf := x.sf } = .next u
      ∧ u.a = s.a ∧ KeepsFlags s u ∧ u.sp = s.sp

/-! ### Results and completion, by family -/

/-- R200, R203: MOV between registers and MVI to a register complete from every state; the destination holds the source
register or the immediate byte, and nothing else changes but PC, IR and CHAIN. -/
def Obligations.RegisterMoves : Prop :=
  (∀ (dst src : Reg) (s : State), ∃ t, Completes (.ofMov dst src) s t false
      ∧ t.getReg dst = s.getReg src ∧ KeepsRegs s t [dst] ∧ t.pc = s.pc + 1
      ∧ t.sp = s.sp ∧ t.ma = s.ma ∧ KeepsFlags s t ∧ t.inte = s.inte ∧ KeepsMemory s t [])
  ∧ ∀ (dst : Reg) (d8 : Byte) (s : State), ∃ t, Completes (.ofMvi dst d8) s t (s.pc + 2 == 0)
      ∧ t.getReg dst = d8 ∧ KeepsRegs s t [dst] ∧ t.pc = s.pc + 2
      ∧ t.sp = s.sp ∧ t.ma = s.ma ∧ KeepsFlags s t ∧ t.inte = s.inte ∧ KeepsMemory s t []

/-- R201, R206, R207, R210: MOV r,M, LDA, LDAX and LHLD complete from every state and load the bytes at the address their
operand gives; the scratch register holds what the rule lists. -/
def Obligations.MemoryLoads : Prop :=
  (∀ (dst : Reg) (s : State), ∃ t, Completes (.ofMovFromM dst) s t false
      ∧ t.getReg dst = s.readByte s.hl ∧ KeepsRegs s t [dst] ∧ t.pc = s.pc + 1 ∧ t.ma = s.ma
      ∧ t.sp = s.sp ∧ KeepsFlags s t ∧ t.inte = s.inte ∧ KeepsMemory s t [])
  ∧ (∀ (a16 : Addr) (s : State), ∃ t, Completes (.lda a16) s t false
      ∧ t.a = s.readByte a16 ∧ KeepsRegs s t [.a] ∧ t.pc = s.pc + 3 ∧ t.ma = a16
      ∧ t.sp = s.sp ∧ KeepsFlags s t ∧ t.inte = s.inte ∧ KeepsMemory s t [])
  ∧ (∀ (p : IndexPair) (s : State), ∃ t, Completes (.ofLdax p) s t false
      ∧ t.a = s.readByte (s.getPair p.pair) ∧ KeepsRegs s t [.a] ∧ t.pc = s.pc + 1 ∧ t.ma = s.getPair p.pair
      ∧ t.sp = s.sp ∧ KeepsFlags s t ∧ t.inte = s.inte ∧ KeepsMemory s t [])
  ∧ ∀ (a16 : Addr) (s : State), ∃ t, Completes (.lhld a16) s t false
      ∧ t.l = s.readByte a16 ∧ t.h = s.readByte (a16 + 1) ∧ KeepsRegs s t [.h, .l] ∧ t.pc = s.pc + 3
      ∧ t.ma = a16 + 1 ∧ t.sp = s.sp ∧ KeepsFlags s t ∧ t.inte = s.inte ∧ KeepsMemory s t []

/-- R202, R204, R208, R209, R211: MOV M,r, MVI M, STA, STAX and SHLD complete from every state and store at the address
their operand gives and nowhere else; no register changes. -/
def Obligations.MemoryStores : Prop :=
  (∀ (src : Reg) (s : State), ∃ t, Completes (.ofMovToM src) s t false
      ∧ t.readByte s.hl = s.getReg src ∧ KeepsMemory s t [s.hl] ∧ t.pc = s.pc + 1 ∧ t.ma = s.ma
      ∧ KeepsRegs s t [] ∧ t.sp = s.sp ∧ KeepsFlags s t ∧ t.inte = s.inte)
  ∧ (∀ (d8 : Byte) (s : State), ∃ t, Completes (.mviM d8) s t false
      ∧ t.readByte s.hl = d8 ∧ KeepsMemory s t [s.hl] ∧ t.pc = s.pc + 2 ∧ t.mal = d8 ∧ t.mah = s.mah
      ∧ KeepsRegs s t [] ∧ t.sp = s.sp ∧ KeepsFlags s t ∧ t.inte = s.inte)
  ∧ (∀ (a16 : Addr) (s : State), ∃ t, Completes (.sta a16) s t false
      ∧ t.readByte a16 = s.a ∧ KeepsMemory s t [a16] ∧ t.pc = s.pc + 3 ∧ t.ma = a16
      ∧ KeepsRegs s t [] ∧ t.sp = s.sp ∧ KeepsFlags s t ∧ t.inte = s.inte)
  ∧ (∀ (p : IndexPair) (s : State), ∃ t, Completes (.ofStax p) s t false
      ∧ t.readByte (s.getPair p.pair) = s.a ∧ KeepsMemory s t [s.getPair p.pair] ∧ t.pc = s.pc + 1
      ∧ t.ma = s.getPair p.pair ∧ KeepsRegs s t [] ∧ t.sp = s.sp ∧ KeepsFlags s t ∧ t.inte = s.inte)
  ∧ ∀ (a16 : Addr) (s : State), ∃ t, Completes (.shld a16) s t false
      ∧ t.readByte a16 = s.l ∧ t.readByte (a16 + 1) = s.h ∧ KeepsMemory s t [a16, a16 + 1] ∧ t.pc = s.pc + 3
      ∧ t.ma = a16 + 1 ∧ KeepsRegs s t [] ∧ t.sp = s.sp ∧ KeepsFlags s t ∧ t.inte = s.inte

/-- R205, R212, R315: LXI, XCHG and SPHL complete from every state; the pair holds the immediate value, HL and DE are
exchanged, SP holds HL. -/
def Obligations.PairMoves : Prop :=
  (∀ (p : Pair) (d16 : Addr) (s : State), ∃ t, Completes (.ofLxi p d16) s t (s.pc + 3 == 0)
      ∧ (∀ q, t.getPair q = if q = p then d16 else s.getPair q) ∧ t.a = s.a ∧ t.pc = s.pc + 3
      ∧ t.ma = s.ma ∧ KeepsFlags s t ∧ t.inte = s.inte ∧ KeepsMemory s t [])
  ∧ (∀ s : State, ∃ t, Completes .xchg s t false
      ∧ t.hl = s.de ∧ t.de = s.hl ∧ KeepsRegs s t [.h, .l, .d, .e] ∧ t.pc = s.pc + 1
      ∧ t.sp = s.sp ∧ t.ma = s.ma ∧ KeepsFlags s t ∧ t.inte = s.inte ∧ KeepsMemory s t [])
  ∧ ∀ s : State, ∃ t, Completes .sphl s t false
      ∧ t.sp = s.hl ∧ KeepsRegs s t [] ∧ t.pc = s.pc + 1
      ∧ t.ma = s.ma ∧ KeepsFlags s t ∧ t.inte = s.inte ∧ KeepsMemory s t []

/-- What the three forms of an accumulator operation share: they complete from every state; the register and M forms leave
CY in CHAIN, the immediate form the carry of its last advance; A, CY, Z and S are as `result` and `carry` say of A, the
operand and the old CY; nothing else changes but PC and IR. -/
def AccumulatorForms (o : AccOp) (result : Byte → Byte → Bool → Nat) (carry : Byte → Byte → Bool → Bool) : Prop :=
  let leaves := fun (s t : State) (x : Byte) =>
    t.a.toNat = result s.a x s.cy ∧ t.cy = carry s.a x s.cy ∧ t.zf = decide (t.a = 0x00) ∧ t.sf = decide (128 ≤ t.a.toNat)
      ∧ KeepsRegs s t [.a] ∧ t.sp = s.sp ∧ t.ma = s.ma ∧ t.inte = s.inte ∧ KeepsMemory s t []
  (∀ (src : Reg) (s : State), ∃ t, Completes (.ofAcc o src) s t (carry s.a (s.getReg src) s.cy)
      ∧ leaves s t (s.getReg src) ∧ t.pc = s.pc + 1)
  ∧ (∀ s : State, ∃ t, Completes (.ofAccM o) s t (carry s.a (s.readByte s.hl) s.cy)
      ∧ leaves s t (s.readByte s.hl) ∧ t.pc = s.pc + 1)
  ∧ ∀ (d8 : Byte) (s : State), ∃ t, Completes (.ofAccImm o d8) s t (s.pc + 2 == 0)
      ∧ leaves s t d8 ∧ t.pc = s.pc + 2

/-- R230, R231, R238, R239: ADD, ADC, ADI and ACI in every form: the sum modulo 256, CY its bit 8, Z and S of the result. -/
def Obligations.Additions : Prop :=
  AccumulatorForms .add (fun a x _ => (a.toNat + x.toNat) % 256) (fun a x _ => decide (256 ≤ a.toNat + x.toNat))
  ∧ AccumulatorForms .adc (fun a x cy => (a.toNat + x.toNat + cy.toNat) % 256)
      (fun a x cy => decide (256 ≤ a.toNat + x.toNat + cy.toNat))

/-- R232, R233, R240, R241: SUB, SBB, SUI and SBI in every form: the difference modulo 256, CY the borrow, Z and S of the
result. -/
def Obligations.Subtractions : Prop :=
  AccumulatorForms .sub (fun a x _ => (a.toNat + 256 - x.toNat) % 256) (fun a x _ => decide (a.toNat < x.toNat))
  ∧ AccumulatorForms .sbb (fun a x cy => (a.toNat + 512 - (x.toNat + cy.toNat)) % 256)
      (fun a x cy => decide (a.toNat < x.toNat + cy.toNat))

/-- R234 to R236, R242 to R244: ANA, XRA, ORA, ANI, XRI and ORI in every form: the bitwise result, CY cleared, Z and S of
the result. -/
def Obligations.LogicOperations : Prop :=
  AccumulatorForms .ana (fun a x _ => a.toNat &&& x.toNat) (fun _ _ _ => false)
  ∧ AccumulatorForms .xra (fun a x _ => a.toNat ^^^ x.toNat) (fun _ _ _ => false)
  ∧ AccumulatorForms .ora (fun a x _ => a.toNat ||| x.toNat) (fun _ _ _ => false)

/-- R237, R245: CMP and CPI in every form: A is unchanged, CY is the borrow of the difference, Z tells equality and S is
the difference's sign. -/
def Obligations.Comparisons : Prop :=
  let leaves := fun (s t : State) (x : Byte) =>
    t.cy = decide (s.a.toNat < x.toNat) ∧ t.zf = decide (s.a = x)
      ∧ t.sf = decide (128 ≤ (s.a.toNat + 256 - x.toNat) % 256)
      ∧ KeepsRegs s t [] ∧ t.sp = s.sp ∧ t.ma = s.ma ∧ t.inte = s.inte ∧ KeepsMemory s t []
  (∀ (src : Reg) (s : State), ∃ t, Completes (.ofAcc .cmp src) s t (decide (s.a.toNat < (s.getReg src).toNat))
      ∧ leaves s t (s.getReg src) ∧ t.pc = s.pc + 1)
  ∧ (∀ s : State, ∃ t, Completes (.ofAccM .cmp) s t (decide (s.a.toNat < (s.readByte s.hl).toNat))
      ∧ leaves s t (s.readByte s.hl) ∧ t.pc = s.pc + 1)
  ∧ ∀ (d8 : Byte) (s : State), ∃ t, Completes (.ofAccImm .cmp d8) s t (s.pc + 2 == 0)
      ∧ leaves s t d8 ∧ t.pc = s.pc + 2

/-- R246 to R249: INR and DCR of a register and of M: the byte plus or minus 1 modulo 256, Z and S of it, CY kept; the
memory forms store it at HL and leave it in MAL. -/
def Obligations.ByteIncrements : Prop :=
  let flagsOf := fun (s t : State) (v : Byte) =>
    t.zf = decide (v.toNat = 0) ∧ t.sf = decide (128 ≤ v.toNat) ∧ t.cy = s.cy
  (∀ (r : Reg) (s : State), ∃ t, Completes (.ofInr r) s t (decide ((s.getReg r).toNat = 255))
      ∧ (t.getReg r).toNat = ((s.getReg r).toNat + 1) % 256 ∧ flagsOf s t (t.getReg r) ∧ KeepsRegs s t [r]
      ∧ t.pc = s.pc + 1 ∧ t.sp = s.sp ∧ t.ma = s.ma ∧ t.inte = s.inte ∧ KeepsMemory s t [])
  ∧ (∀ (r : Reg) (s : State), ∃ t, Completes (.ofDcr r) s t (decide ((s.getReg r).toNat = 0))
      ∧ (t.getReg r).toNat = ((s.getReg r).toNat + 255) % 256 ∧ flagsOf s t (t.getReg r) ∧ KeepsRegs s t [r]
      ∧ t.pc = s.pc + 1 ∧ t.sp = s.sp ∧ t.ma = s.ma ∧ t.inte = s.inte ∧ KeepsMemory s t [])
  ∧ (∀ s : State, ∃ t, Completes .inrM s t false
      ∧ (t.readByte s.hl).toNat = ((s.readByte s.hl).toNat + 1) % 256 ∧ flagsOf s t (t.readByte s.hl)
      ∧ KeepsMemory s t [s.hl] ∧ KeepsRegs s t [] ∧ t.pc = s.pc + 1 ∧ t.sp = s.sp
      ∧ t.mal = t.readByte s.hl ∧ t.mah = s.mah ∧ t.inte = s.inte)
  ∧ ∀ s : State, ∃ t, Completes .dcrM s t false
      ∧ (t.readByte s.hl).toNat = ((s.readByte s.hl).toNat + 255) % 256 ∧ flagsOf s t (t.readByte s.hl)
      ∧ KeepsMemory s t [s.hl] ∧ KeepsRegs s t [] ∧ t.pc = s.pc + 1 ∧ t.sp = s.sp
      ∧ t.mal = t.readByte s.hl ∧ t.mah = s.mah ∧ t.inte = s.inte

/-- R250 to R252: INX and DCX move the pair by 1 modulo 65,536 and touch no flag; DAD adds the pair to HL, CY is bit 16 of
the sum, Z and S are kept, A is left in MAL. -/
def Obligations.PairArithmetic : Prop :=
  (∀ (p : Pair) (s : State), ∃ t, Completes (.ofInx p) s t (decide ((s.getPair p).toNat = 65535))
      ∧ (t.getPair p).toNat = ((s.getPair p).toNat + 1) % 65536 ∧ (∀ q, q ≠ p → t.getPair q = s.getPair q) ∧ t.a = s.a
      ∧ t.pc = s.pc + 1 ∧ t.ma = s.ma ∧ KeepsFlags s t ∧ t.inte = s.inte ∧ KeepsMemory s t [])
  ∧ (∀ (p : Pair) (s : State), ∃ t, Completes (.ofDcx p) s t (decide ((s.getPair p).toNat = 0))
      ∧ (t.getPair p).toNat = ((s.getPair p).toNat + 65535) % 65536 ∧ (∀ q, q ≠ p → t.getPair q = s.getPair q)
      ∧ t.a = s.a ∧ t.pc = s.pc + 1 ∧ t.ma = s.ma ∧ KeepsFlags s t ∧ t.inte = s.inte ∧ KeepsMemory s t [])
  ∧ ∀ (p : Pair) (s : State), ∃ t, Completes (.ofDad p) s t false
      ∧ t.hl.toNat = (s.hl.toNat + (s.getPair p).toNat) % 65536
      ∧ t.cy = decide (65536 ≤ s.hl.toNat + (s.getPair p).toNat) ∧ t.zf = s.zf ∧ t.sf = s.sf
      ∧ KeepsRegs s t [.h, .l] ∧ t.pc = s.pc + 1 ∧ t.sp = s.sp ∧ t.mal = s.a ∧ t.mah = s.mah ∧ t.inte = s.inte
      ∧ KeepsMemory s t []

/-- R260 to R263: the rotates, bit by bit: RLC and RRC around the byte, RAL and RAR through CY; Z and S are kept. -/
def Obligations.Rotates : Prop :=
  ∀ s : State,
    (∃ t, Completes .rlc s t false ∧ t.cy = s.a.getLsbD 7 ∧ t.a = s.a.rotateLeft 1
      ∧ t.zf = s.zf ∧ t.sf = s.sf ∧ KeepsRegs s t [.a] ∧ t.pc = s.pc + 1 ∧ t.sp = s.sp ∧ t.ma = s.ma ∧ t.inte = s.inte
      ∧ KeepsMemory s t [])
    ∧ (∃ t, Completes .rrc s t (s.a.getLsbD 0) ∧ t.cy = s.a.getLsbD 0 ∧ t.a = s.a.rotateRight 1
      ∧ t.zf = s.zf ∧ t.sf = s.sf ∧ KeepsRegs s t [.a] ∧ t.pc = s.pc + 1 ∧ t.sp = s.sp ∧ t.ma = s.ma ∧ t.inte = s.inte
      ∧ KeepsMemory s t [])
    ∧ (∃ t, Completes .ral s t (s.a.getLsbD 7) ∧ BitVec.ofBool t.cy ++ t.a = (BitVec.ofBool s.cy ++ s.a).rotateLeft 1
      ∧ t.zf = s.zf ∧ t.sf = s.sf ∧ KeepsRegs s t [.a] ∧ t.pc = s.pc + 1 ∧ t.sp = s.sp ∧ t.ma = s.ma ∧ t.inte = s.inte
      ∧ KeepsMemory s t [])
    ∧ ∃ t, Completes .rar s t (s.a.getLsbD 0) ∧ BitVec.ofBool t.cy ++ t.a = (BitVec.ofBool s.cy ++ s.a).rotateRight 1
      ∧ t.zf = s.zf ∧ t.sf = s.sf ∧ KeepsRegs s t [.a] ∧ t.pc = s.pc + 1 ∧ t.sp = s.sp ∧ t.ma = s.ma ∧ t.inte = s.inte
      ∧ KeepsMemory s t []

/-- R264 to R266, R318, R319: CMA complements A and touches no flag; STC and CMC write CY alone; EI and DI write INTE
alone. -/
def Obligations.SingleBitOperations : Prop :=
  ∀ s : State,
    (∃ t, Completes .cma s t false ∧ t.a.toNat = 255 - s.a.toNat ∧ KeepsFlags s t ∧ t.inte = s.inte ∧ t.mal = 0xFF
      ∧ t.mah = s.mah ∧ KeepsRegs s t [.a] ∧ t.pc = s.pc + 1 ∧ t.sp = s.sp ∧ KeepsMemory s t [])
    ∧ (∃ t, Completes .stc s t false ∧ t.cy = true ∧ t.zf = s.zf ∧ t.sf = s.sf ∧ t.inte = s.inte
      ∧ KeepsRegs s t [] ∧ t.pc = s.pc + 1 ∧ t.sp = s.sp ∧ t.ma = s.ma ∧ KeepsMemory s t [])
    ∧ (∃ t, Completes .cmc s t false ∧ t.cy = !s.cy ∧ t.zf = s.zf ∧ t.sf = s.sf ∧ t.inte = s.inte
      ∧ KeepsRegs s t [] ∧ t.pc = s.pc + 1 ∧ t.sp = s.sp ∧ t.ma = s.ma ∧ KeepsMemory s t [])
    ∧ (∃ t, Completes .ei s t false ∧ t.inte = true ∧ KeepsFlags s t
      ∧ KeepsRegs s t [] ∧ t.pc = s.pc + 1 ∧ t.sp = s.sp ∧ t.ma = s.ma ∧ KeepsMemory s t [])
    ∧ ∃ t, Completes .di s t false ∧ t.inte = false ∧ KeepsFlags s t
      ∧ KeepsRegs s t [] ∧ t.pc = s.pc + 1 ∧ t.sp = s.sp ∧ t.ma = s.ma ∧ KeepsMemory s t []

/-- R270, R271, R301: JMP, Jcc and PCHL: PC goes to the target, or past the operand bytes where the condition fails;
nothing else changes but the scratch the rules list.That JPO and JPE run is the model's choice
(notes/assumptions/3.md). -/
def Obligations.Jumps : Prop :=
  let keeps := fun (s t : State) =>
    KeepsRegs s t [] ∧ t.sp = s.sp ∧ KeepsFlags s t ∧ t.inte = s.inte ∧ KeepsMemory s t []
  (∀ (a16 : Addr) (s : State), ∃ t, Completes (.jmp a16) s t false
      ∧ t.pc = a16 ∧ t.mal = loByte a16 ∧ t.mah = s.mah ∧ keeps s t)
  ∧ (∀ (cc : Cond) (a16 : Addr) (s : State), ∃ t,
      Completes (.ofJcc cc a16) s t (if s.holds cc then false else (s.pc + 3 == 0))
      ∧ t.pc = (if s.holds cc then a16 else s.pc + 3)
      ∧ t.mal = (if s.holds cc then loByte a16 else s.mal) ∧ t.mah = s.mah ∧ keeps s t)
  ∧ ∀ s : State, ∃ t, Completes .pchl s t false ∧ t.pc = s.hl ∧ t.ma = s.ma ∧ keeps s t

/-- R280, R281, R300: CALL, Ccc and RST push the address of the next instruction, high byte at SP - 1 and low byte at
SP - 2, and go to the target or the vector `8 * n`; a Ccc whose condition fails only passes its operand bytes. That
CPO and CPE run is the model's choice (notes/assumptions/3.md). -/
def Obligations.Calls : Prop :=
  let keeps := fun (s t : State) => KeepsRegs s t [] ∧ KeepsFlags s t ∧ t.inte = s.inte
  let pushed := fun (s t : State) (v : Addr) =>
    t.sp = s.sp - 2 ∧ t.readByte (s.sp - 1) = hiByte v ∧ t.readByte (s.sp - 2) = loByte v
      ∧ KeepsMemory s t [s.sp - 1, s.sp - 2]
  (∀ (a16 : Addr) (s : State), ∃ t, Completes (.call a16) s t false
      ∧ t.pc = a16 ∧ t.ma = a16 ∧ pushed s t (s.pc + 3) ∧ keeps s t)
  ∧ (∀ (cc : Cond) (a16 : Addr) (s : State), ∃ t,
      Completes (.ofCcc cc a16) s t (if s.holds cc then false else (s.pc + 3 == 0))
      ∧ (if s.holds cc then t.pc = a16 ∧ t.ma = a16 ∧ pushed s t (s.pc + 3)
         else t.pc = s.pc + 3 ∧ t.ma = s.ma ∧ t.sp = s.sp ∧ KeepsMemory s t [])
      ∧ keeps s t)
  ∧ ∀ (n : BitVec 3) (s : State), ∃ t, Completes (.ofRst n) s t false
      ∧ t.pc.toNat = 8 * n.toNat ∧ t.ma = s.ma ∧ pushed s t (s.pc + 1) ∧ keeps s t

/-- R290, R291: RET and Rcc pop PC, low byte at SP, and raise SP by 2; an Rcc whose condition fails passes on. That
RPO and RPE run is the model's choice (notes/assumptions/3.md). -/
def Obligations.Returns : Prop :=
  let keeps := fun (s t : State) =>
    KeepsRegs s t [] ∧ KeepsFlags s t ∧ t.inte = s.inte ∧ t.ma = s.ma ∧ KeepsMemory s t []
  (∀ s : State, ∃ t, Completes .ret s t (s.sp == 0xFFFE)
      ∧ t.pcl = s.readByte s.sp ∧ t.pch = s.readByte (s.sp + 1) ∧ t.sp = s.sp + 2 ∧ keeps s t)
  ∧ ∀ (cc : Cond) (s : State), ∃ t,
      Completes (.ofRcc cc) s t (if s.holds cc then (s.sp == 0xFFFE) else (s.pc + 1 == 0))
      ∧ (if s.holds cc then t.pcl = s.readByte s.sp ∧ t.pch = s.readByte (s.sp + 1) ∧ t.sp = s.sp + 2
         else t.pc = s.pc + 1 ∧ t.sp = s.sp)
      ∧ keeps s t

/-- R310, R311, R17: PUSH stores the pair's high byte at SP - 1 and its low byte at SP - 2; PUSH PSW stores A and the byte
`S:Z:0:0:0:0:0:CY`. -/
def Obligations.Pushes : Prop :=
  let pushed := fun (s t : State) (hi lo : Byte) =>
    t.sp = s.sp - 2 ∧ t.readByte (s.sp - 1) = hi ∧ t.readByte (s.sp - 2) = lo
      ∧ KeepsMemory s t [s.sp - 1, s.sp - 2] ∧ t.pc = s.pc + 1
      ∧ KeepsRegs s t [] ∧ KeepsFlags s t ∧ t.inte = s.inte ∧ t.ma = s.ma
  (∀ (p : StackPair) (s : State), ∃ t, Completes (.ofPush p) s t false
      ∧ pushed s t (hiByte (s.getPair p.pair)) (loByte (s.getPair p.pair)))
  ∧ ∀ s : State, ∃ t, Completes .pushPsw s t false
      ∧ ∃ lo : Byte, pushed s t s.a lo ∧ lo.toNat = 128 * s.sf.toNat + 64 * s.zf.toNat + s.cy.toNat

/-- R312, R313, R17: POP loads the pair from the two bytes at SP and raises SP by 2; POP PSW loads S, Z and CY from bits 7,
6 and 0 of the low byte and A from the high one. -/
def Obligations.Pops : Prop :=
  let popped := fun (s t : State) =>
    t.sp = s.sp + 2 ∧ t.pc = s.pc + 1 ∧ t.inte = s.inte ∧ t.ma = s.ma ∧ KeepsMemory s t []
  (∀ (p : StackPair) (s : State), ∃ t, Completes (.ofPop p) s t (s.sp == 0xFFFE)
      ∧ hiByte (t.getPair p.pair) = s.readByte (s.sp + 1) ∧ loByte (t.getPair p.pair) = s.readByte s.sp
      ∧ (∀ q, q ≠ p.pair → q ≠ .sp → t.getPair q = s.getPair q) ∧ t.a = s.a ∧ KeepsFlags s t ∧ popped s t)
  ∧ ∀ s : State, ∃ t, Completes .popPsw s t (s.sp == 0xFFFE)
      ∧ t.a = s.readByte (s.sp + 1) ∧ t.sf = (s.readByte s.sp).getLsbD 7 ∧ t.zf = (s.readByte s.sp).getLsbD 6
      ∧ t.cy = (s.readByte s.sp).getLsbD 0 ∧ KeepsRegs s t [.a] ∧ popped s t

/-- R314: XTHL exchanges HL with the word on top of the stack, L with the byte at SP and H with the byte at SP + 1; SP is
unchanged, the new H is left in MAL. -/
def Obligations.ExchangeTop : Prop :=
  ∀ s : State, ∃ t, Completes .xthl s t (s.sp == 0xFFFF)
    ∧ t.l = s.readByte s.sp ∧ t.h = s.readByte (s.sp + 1) ∧ t.readByte s.sp = s.l ∧ t.readByte (s.sp + 1) = s.h
    ∧ KeepsRegs s t [.h, .l] ∧ KeepsMemory s t [s.sp, s.sp + 1] ∧ t.sp = s.sp ∧ t.pc = s.pc + 1
    ∧ t.mal = t.h ∧ t.mah = s.mah ∧ KeepsFlags s t ∧ t.inte = s.inte

/-- R253, R316, R317, R320 to R322: NOP, DAA, the twelve undocumented opcodes, IN and OUT pass to the next instruction and
change nothing else a program can see; HLT changes nothing at all a program can see. The stubs' rows are the spec's
decision D18; that the model runs them, where R78 and R199 advise to refuse them, is its own choice
(notes/assumptions/4.md). -/
def Obligations.NoVisibleEffect : Prop :=
  let keeps := fun (s t : State) =>
    KeepsRegs s t [] ∧ t.sp = s.sp ∧ t.ma = s.ma ∧ KeepsFlags s t ∧ t.inte = s.inte ∧ KeepsMemory s t []
  (∀ (i : Instr) (s : State), i = .nop ∨ i = .daa ∨ (∃ u, i = .ofUndoc u) →
      ∃ t, Completes i s t (s.pc + 1 == 0) ∧ t.pc = s.pc + 1 ∧ keeps s t)
  ∧ (∀ (i : Instr) (d8 : Byte) (s : State), i = .inPort d8 ∨ i = .outPort d8 →
      ∃ t, Completes i s t (s.pc + 2 == 0) ∧ t.pc = s.pc + 2 ∧ keeps s t)
  ∧ ∀ s : State, ∃ t, Completes .hlt s t false ∧ t.pc = s.pc ∧ keeps s t

/-! ### Signal words -/

/-- R69 (g), R129 to R133, R137: a generated word with one of the five signals does what the signal does, in every state,
clears CHAIN, moves STEP and does nothing else; each of the five words of R165 to R169 is one. -/
def Obligations.SignalWords : Prop :=
  (∀ (f : ControlWord) (s : State), f.generated = true →
      (f.cset = true ∨ f.ccpl = true ∨ f.swap = true ∨ f.ei = true ∨ f.di = true) →
      microStep f s =
        { s with
          cy := if f.cset then true else if f.ccpl then !s.cy else s.cy
          h := if f.swap then s.d else s.h
          l := if f.swap then s.e else s.l
          d := if f.swap then s.h else s.d
          e := if f.swap then s.l else s.e
          inte := if f.ei then true else if f.di then false else s.inte
          chain := false
          step := if f.last then 0 else s.step + 1 })
  ∧ ∀ w ∈ [0x00080000, 0x00100000, 0x00200000, 0x00400000, 0x00800000],
      (ControlWord.decode w).generated = true ∧ (ControlWord.decode w).unsignalled = MicroOp.idle
end

