-- ==== Sys2Proof/Laws/Memory.lean ====
section
/-! SUPPORT. The laws of memory (spec/20_memory.md R45, R48): a read after a write gives the byte written at that address
and the old byte at every other, for every list of cells; and every operation keeps the canonical form. -/

namespace Sys2Proof.Machine

open Memory

/-! ### Read after write -/

theorem Memory.lookup_erase (m : Memory) (k j : Nat) : (m.erase k).lookup j = if j = k then unlisted else m.lookup j := by
  induction m with
  | nil => simp [Memory.erase, Memory.lookup]
  | cons c rest ih =>
    obtain ⟨i, v⟩ := c
    simp only [Memory.erase, List.filter_cons] at ih ⊢
    by_cases hik : i = k
    · subst hik
      simp only [bne_self_eq_false, Bool.false_eq_true, if_false, ih, Memory.lookup]
      by_cases hj : j = i
      · simp [hj]
      · simp [hj, Ne.symm hj]
    · simp only [bne_iff_ne, ne_eq, hik, not_false_eq_true, if_true, Memory.lookup, ih]
      by_cases hij : i = j
      · subst hij; simp [hik]
      · simp [hij]

theorem Memory.lookup_insert (m : Memory) (k j : Nat) (v : Byte) (hk : ∀ c ∈ m, c.1 ≠ k) :
    (m.insert k v).lookup j = if j = k then v else m.lookup j := by
  induction m with
  | nil => simp [Memory.insert, Memory.lookup, eq_comm]
  | cons c rest ih =>
    have hc : c.1 ≠ k := hk c (by simp)
    have ih' := ih fun d hd => hk d (by simp [hd])
    simp only [Memory.insert]
    split
    · simp [Memory.lookup, eq_comm]
    · simp only [Memory.lookup, ih']
      by_cases hj : j = k
      · subst hj; simp [hc]
      · simp [hj]

theorem Memory.ne_of_mem_erase (m : Memory) (k : Nat) : ∀ c ∈ m.erase k, c.1 ≠ k := by
  intro c hc
  simpa using (List.mem_filter.1 hc).2

/-- A read after a write: the byte written at that address, the old byte at every other (R45, R48). -/
theorem Memory.read_write (m : Memory) (a x : Addr) (v : Byte) : (m.write a v).read x = if x = a then v else m.read x := by
  simp only [Memory.read, Memory.write]
  split
  · next h => simp only [Memory.lookup_erase, BitVec.toNat_inj, h]
  · rw [Memory.lookup_insert _ _ _ _ (Memory.ne_of_mem_erase m a.toNat), Memory.lookup_erase]
    simp only [BitVec.toNat_inj]
    split <;> rfl

@[simp] theorem Memory.read_write_same (m : Memory) (a : Addr) (v : Byte) : (m.write a v).read a = v := by
  simp [Memory.read_write]

theorem Memory.read_write_ne (m : Memory) {a x : Addr} (v : Byte) (h : x ≠ a) : (m.write a v).read x = m.read x := by
  simp [Memory.read_write, h]

/-- The same law for the state's memory. -/
theorem State.readByte_writeByte (s : State) (a x : Addr) (v : Byte) :
    (s.writeByte a v).readByte x = if x = a then v else s.readByte x := Memory.read_write s.mem a x v

/-! ### The canonical form -/

theorem Memory.wf_erase {m : Memory} (h : m.wf) (k : Nat) : (m.erase k).wf :=
  ⟨h.1.filter _, fun c hc => h.2 c (List.mem_filter.1 hc).1⟩

theorem Memory.mem_insert {m : Memory} {k : Nat} {v : Byte} {c : Host.Cell} (h : c ∈ m.insert k v) : c = (k, v) ∨ c ∈ m := by
  induction m with
  | nil => simpa [Memory.insert] using h
  | cons d rest ih =>
    simp only [Memory.insert] at h
    split at h
    · simpa using h
    · rcases List.mem_cons.1 h with h | h
      · exact .inr (by simp [h])
      · exact (ih h).imp id fun h => by simp [h]

theorem Memory.pairwise_insert {m : Memory} {k : Nat} {v : Byte} (h : m.Pairwise fun c c' => c.1 < c'.1)
    (hk : ∀ c ∈ m, c.1 ≠ k) : (m.insert k v).Pairwise fun c c' => c.1 < c'.1 := by
  induction m with
  | nil => simp [Memory.insert]
  | cons d rest ih =>
    have hd := List.pairwise_cons.1 h
    have hne : d.1 ≠ k := hk d (by simp)
    simp only [Memory.insert]
    split
    · next hlt =>
      refine List.pairwise_cons.2 ⟨fun c hc => ?_, h⟩
      rcases List.mem_cons.1 hc with hc | hc
      · simpa [hc] using hlt
      · exact Nat.lt_trans hlt (hd.1 c hc)
    · next hge =>
      refine List.pairwise_cons.2 ⟨fun c hc => ?_, ih hd.2 fun c hc => hk c (by simp [hc])⟩
      rcases Memory.mem_insert hc with hc | hc
      · subst hc; simp only at hge ⊢; omega
      · exact hd.1 c hc

/-- Writing keeps the canonical form. -/
theorem Memory.wf_write {m : Memory} (h : m.wf) (a : Addr) (v : Byte) : (m.write a v).wf := by
  simp only [Memory.write]
  split
  · exact Memory.wf_erase h _
  · next hv =>
    have he := Memory.wf_erase h a.toNat
    refine ⟨Memory.pairwise_insert he.1 (Memory.ne_of_mem_erase m _), fun c hc => ?_⟩
    rcases Memory.mem_insert hc with hc | hc
    · subst hc; exact ⟨hv, a.isLt⟩
    · exact he.2 c hc

/-- The memory right after reset has the canonical form. -/
theorem Memory.wf_reset : State.reset.mem.wf := by decide

end Sys2Proof.Machine
end

