-- ==== Sys2Proof/Laws/State.lean ====
section
/-! SUPPORT. The state record: for every named update, one lemma per field and per pair, true by rfl, so that no later
proof unfolds a record update. Generated in one shape; the updates are those of Sys2Proof/Machine/Flags.lean,
Sys2Proof/Machine/Operands.lean, Sys2Proof/Machine/Ops.lean and Sys2Proof/Machine/MicroStep.lean. -/

namespace Sys2Proof

/-! ### Halves of a 16-bit value -/

@[simp] theorem hiByte_pairOf (hi lo : Byte) : hiByte (pairOf hi lo) = hi := by
  simp only [hiByte, pairOf]; exact BitVec.extractLsb'_append_eq_left

@[simp] theorem loByte_pairOf (hi lo : Byte) : loByte (pairOf hi lo) = lo := by
  simp only [loByte, pairOf]; exact BitVec.extractLsb'_append_eq_right

@[simp] theorem pairOf_hiByte_loByte (v : Addr) : pairOf (hiByte v) (loByte v) = v := by
  apply BitVec.eq_of_getLsbD_eq
  intro i hi
  simp only [hiByte, loByte, pairOf, BitVec.getLsbD_append, BitVec.getLsbD_extractLsb']
  split
  · simp [*]
  · have : 8 + (i - 8) = i := by omega
    simp [this]; omega

/-- Two 16-bit values with the same halves are equal. -/
theorem eq_of_halves {v w : Addr} (hh : hiByte v = hiByte w) (hl : loByte v = loByte w) : v = w := by
  rw [← pairOf_hiByte_loByte v, ← pairOf_hiByte_loByte w, hh, hl]

namespace Machine

variable (s : State)

/-! ### CY -/

@[simp] theorem State.withCY_b (v : Bool) : (s.withCY v).b = s.b := rfl
@[simp] theorem State.withCY_c (v : Bool) : (s.withCY v).c = s.c := rfl
@[simp] theorem State.withCY_d (v : Bool) : (s.withCY v).d = s.d := rfl
@[simp] theorem State.withCY_e (v : Bool) : (s.withCY v).e = s.e := rfl
@[simp] theorem State.withCY_h (v : Bool) : (s.withCY v).h = s.h := rfl
@[simp] theorem State.withCY_l (v : Bool) : (s.withCY v).l = s.l := rfl
@[simp] theorem State.withCY_a (v : Bool) : (s.withCY v).a = s.a := rfl
@[simp] theorem State.withCY_pch (v : Bool) : (s.withCY v).pch = s.pch := rfl
@[simp] theorem State.withCY_pcl (v : Bool) : (s.withCY v).pcl = s.pcl := rfl
@[simp] theorem State.withCY_sph (v : Bool) : (s.withCY v).sph = s.sph := rfl
@[simp] theorem State.withCY_spl (v : Bool) : (s.withCY v).spl = s.spl := rfl
@[simp] theorem State.withCY_mah (v : Bool) : (s.withCY v).mah = s.mah := rfl
@[simp] theorem State.withCY_mal (v : Bool) : (s.withCY v).mal = s.mal := rfl
@[simp] theorem State.withCY_ir (v : Bool) : (s.withCY v).ir = s.ir := rfl
@[simp] theorem State.withCY_cy (v : Bool) : (s.withCY v).cy = v := rfl
@[simp] theorem State.withCY_zf (v : Bool) : (s.withCY v).zf = s.zf := rfl
@[simp] theorem State.withCY_sf (v : Bool) : (s.withCY v).sf = s.sf := rfl
@[simp] theorem State.withCY_inte (v : Bool) : (s.withCY v).inte = s.inte := rfl
@[simp] theorem State.withCY_chain (v : Bool) : (s.withCY v).chain = s.chain := rfl
@[simp] theorem State.withCY_step (v : Bool) : (s.withCY v).step = s.step := rfl
@[simp] theorem State.withCY_mem (v : Bool) : (s.withCY v).mem = s.mem := rfl
@[simp] theorem State.withCY_bc (v : Bool) : (s.withCY v).bc = s.bc := rfl
@[simp] theorem State.withCY_de (v : Bool) : (s.withCY v).de = s.de := rfl
@[simp] theorem State.withCY_hl (v : Bool) : (s.withCY v).hl = s.hl := rfl
@[simp] theorem State.withCY_pc (v : Bool) : (s.withCY v).pc = s.pc := rfl
@[simp] theorem State.withCY_sp (v : Bool) : (s.withCY v).sp = s.sp := rfl
@[simp] theorem State.withCY_ma (v : Bool) : (s.withCY v).ma = s.ma := rfl
@[simp] theorem State.withCY_getReg (v : Bool) (r : Reg) : (s.withCY v).getReg r = s.getReg r := by cases r <;> rfl
@[simp] theorem State.withCY_getPair (v : Bool) (p : Pair) :
    (s.withCY v).getPair p = s.getPair p := by cases p <;> rfl
@[simp] theorem State.withCY_readByte (v : Bool) (x : Addr) : (s.withCY v).readByte x = s.readByte x := rfl

/-! ### CHAIN -/

@[simp] theorem State.withChain_b (v : Bool) : (s.withChain v).b = s.b := rfl
@[simp] theorem State.withChain_c (v : Bool) : (s.withChain v).c = s.c := rfl
@[simp] theorem State.withChain_d (v : Bool) : (s.withChain v).d = s.d := rfl
@[simp] theorem State.withChain_e (v : Bool) : (s.withChain v).e = s.e := rfl
@[simp] theorem State.withChain_h (v : Bool) : (s.withChain v).h = s.h := rfl
@[simp] theorem State.withChain_l (v : Bool) : (s.withChain v).l = s.l := rfl
@[simp] theorem State.withChain_a (v : Bool) : (s.withChain v).a = s.a := rfl
@[simp] theorem State.withChain_pch (v : Bool) : (s.withChain v).pch = s.pch := rfl
@[simp] theorem State.withChain_pcl (v : Bool) : (s.withChain v).pcl = s.pcl := rfl
@[simp] theorem State.withChain_sph (v : Bool) : (s.withChain v).sph = s.sph := rfl
@[simp] theorem State.withChain_spl (v : Bool) : (s.withChain v).spl = s.spl := rfl
@[simp] theorem State.withChain_mah (v : Bool) : (s.withChain v).mah = s.mah := rfl
@[simp] theorem State.withChain_mal (v : Bool) : (s.withChain v).mal = s.mal := rfl
@[simp] theorem State.withChain_ir (v : Bool) : (s.withChain v).ir = s.ir := rfl
@[simp] theorem State.withChain_cy (v : Bool) : (s.withChain v).cy = s.cy := rfl
@[simp] theorem State.withChain_zf (v : Bool) : (s.withChain v).zf = s.zf := rfl
@[simp] theorem State.withChain_sf (v : Bool) : (s.withChain v).sf = s.sf := rfl
@[simp] theorem State.withChain_inte (v : Bool) : (s.withChain v).inte = s.inte := rfl
@[simp] theorem State.withChain_chain (v : Bool) : (s.withChain v).chain = v := rfl
@[simp] theorem State.withChain_step (v : Bool) : (s.withChain v).step = s.step := rfl
@[simp] theorem State.withChain_mem (v : Bool) : (s.withChain v).mem = s.mem := rfl
@[simp] theorem State.withChain_bc (v : Bool) : (s.withChain v).bc = s.bc := rfl
@[simp] theorem State.withChain_de (v : Bool) : (s.withChain v).de = s.de := rfl
@[simp] theorem State.withChain_hl (v : Bool) : (s.withChain v).hl = s.hl := rfl
@[simp] theorem State.withChain_pc (v : Bool) : (s.withChain v).pc = s.pc := rfl
@[simp] theorem State.withChain_sp (v : Bool) : (s.withChain v).sp = s.sp := rfl
@[simp] theorem State.withChain_ma (v : Bool) : (s.withChain v).ma = s.ma := rfl
@[simp] theorem State.withChain_getReg (v : Bool) (r : Reg) :
    (s.withChain v).getReg r = s.getReg r := by cases r <;> rfl
@[simp] theorem State.withChain_getPair (v : Bool) (p : Pair) :
    (s.withChain v).getPair p = s.getPair p := by cases p <;> rfl
@[simp] theorem State.withChain_readByte (v : Bool) (x : Addr) : (s.withChain v).readByte x = s.readByte x := rfl

/-! ### INTE -/

@[simp] theorem State.withInte_b (v : Bool) : (s.withInte v).b = s.b := rfl
@[simp] theorem State.withInte_c (v : Bool) : (s.withInte v).c = s.c := rfl
@[simp] theorem State.withInte_d (v : Bool) : (s.withInte v).d = s.d := rfl
@[simp] theorem State.withInte_e (v : Bool) : (s.withInte v).e = s.e := rfl
@[simp] theorem State.withInte_h (v : Bool) : (s.withInte v).h = s.h := rfl
@[simp] theorem State.withInte_l (v : Bool) : (s.withInte v).l = s.l := rfl
@[simp] theorem State.withInte_a (v : Bool) : (s.withInte v).a = s.a := rfl
@[simp] theorem State.withInte_pch (v : Bool) : (s.withInte v).pch = s.pch := rfl
@[simp] theorem State.withInte_pcl (v : Bool) : (s.withInte v).pcl = s.pcl := rfl
@[simp] theorem State.withInte_sph (v : Bool) : (s.withInte v).sph = s.sph := rfl
@[simp] theorem State.withInte_spl (v : Bool) : (s.withInte v).spl = s.spl := rfl
@[simp] theorem State.withInte_mah (v : Bool) : (s.withInte v).mah = s.mah := rfl
@[simp] theorem State.withInte_mal (v : Bool) : (s.withInte v).mal = s.mal := rfl
@[simp] theorem State.withInte_ir (v : Bool) : (s.withInte v).ir = s.ir := rfl
@[simp] theorem State.withInte_cy (v : Bool) : (s.withInte v).cy = s.cy := rfl
@[simp] theorem State.withInte_zf (v : Bool) : (s.withInte v).zf = s.zf := rfl
@[simp] theorem State.withInte_sf (v : Bool) : (s.withInte v).sf = s.sf := rfl
@[simp] theorem State.withInte_inte (v : Bool) : (s.withInte v).inte = v := rfl
@[simp] theorem State.withInte_chain (v : Bool) : (s.withInte v).chain = s.chain := rfl
@[simp] theorem State.withInte_step (v : Bool) : (s.withInte v).step = s.step := rfl
@[simp] theorem State.withInte_mem (v : Bool) : (s.withInte v).mem = s.mem := rfl
@[simp] theorem State.withInte_bc (v : Bool) : (s.withInte v).bc = s.bc := rfl
@[simp] theorem State.withInte_de (v : Bool) : (s.withInte v).de = s.de := rfl
@[simp] theorem State.withInte_hl (v : Bool) : (s.withInte v).hl = s.hl := rfl
@[simp] theorem State.withInte_pc (v : Bool) : (s.withInte v).pc = s.pc := rfl
@[simp] theorem State.withInte_sp (v : Bool) : (s.withInte v).sp = s.sp := rfl
@[simp] theorem State.withInte_ma (v : Bool) : (s.withInte v).ma = s.ma := rfl
@[simp] theorem State.withInte_getReg (v : Bool) (r : Reg) :
    (s.withInte v).getReg r = s.getReg r := by cases r <;> rfl
@[simp] theorem State.withInte_getPair (v : Bool) (p : Pair) :
    (s.withInte v).getPair p = s.getPair p := by cases p <;> rfl
@[simp] theorem State.withInte_readByte (v : Bool) (x : Addr) : (s.withInte v).readByte x = s.readByte x := rfl

/-! ### Z and S -/

@[simp] theorem State.captureZS_b (v : Byte) : (s.captureZS v).b = s.b := rfl
@[simp] theorem State.captureZS_c (v : Byte) : (s.captureZS v).c = s.c := rfl
@[simp] theorem State.captureZS_d (v : Byte) : (s.captureZS v).d = s.d := rfl
@[simp] theorem State.captureZS_e (v : Byte) : (s.captureZS v).e = s.e := rfl
@[simp] theorem State.captureZS_h (v : Byte) : (s.captureZS v).h = s.h := rfl
@[simp] theorem State.captureZS_l (v : Byte) : (s.captureZS v).l = s.l := rfl
@[simp] theorem State.captureZS_a (v : Byte) : (s.captureZS v).a = s.a := rfl
@[simp] theorem State.captureZS_pch (v : Byte) : (s.captureZS v).pch = s.pch := rfl
@[simp] theorem State.captureZS_pcl (v : Byte) : (s.captureZS v).pcl = s.pcl := rfl
@[simp] theorem State.captureZS_sph (v : Byte) : (s.captureZS v).sph = s.sph := rfl
@[simp] theorem State.captureZS_spl (v : Byte) : (s.captureZS v).spl = s.spl := rfl
@[simp] theorem State.captureZS_mah (v : Byte) : (s.captureZS v).mah = s.mah := rfl
@[simp] theorem State.captureZS_mal (v : Byte) : (s.captureZS v).mal = s.mal := rfl
@[simp] theorem State.captureZS_ir (v : Byte) : (s.captureZS v).ir = s.ir := rfl
@[simp] theorem State.captureZS_cy (v : Byte) : (s.captureZS v).cy = s.cy := rfl
@[simp] theorem State.captureZS_zf (v : Byte) : (s.captureZS v).zf = zeroOf v := rfl
@[simp] theorem State.captureZS_sf (v : Byte) : (s.captureZS v).sf = signOf v := rfl
@[simp] theorem State.captureZS_inte (v : Byte) : (s.captureZS v).inte = s.inte := rfl
@[simp] theorem State.captureZS_chain (v : Byte) : (s.captureZS v).chain = s.chain := rfl
@[simp] theorem State.captureZS_step (v : Byte) : (s.captureZS v).step = s.step := rfl
@[simp] theorem State.captureZS_mem (v : Byte) : (s.captureZS v).mem = s.mem := rfl
@[simp] theorem State.captureZS_bc (v : Byte) : (s.captureZS v).bc = s.bc := rfl
@[simp] theorem State.captureZS_de (v : Byte) : (s.captureZS v).de = s.de := rfl
@[simp] theorem State.captureZS_hl (v : Byte) : (s.captureZS v).hl = s.hl := rfl
@[simp] theorem State.captureZS_pc (v : Byte) : (s.captureZS v).pc = s.pc := rfl
@[simp] theorem State.captureZS_sp (v : Byte) : (s.captureZS v).sp = s.sp := rfl
@[simp] theorem State.captureZS_ma (v : Byte) : (s.captureZS v).ma = s.ma := rfl
@[simp] theorem State.captureZS_getReg (v : Byte) (r : Reg) :
    (s.captureZS v).getReg r = s.getReg r := by cases r <;> rfl
@[simp] theorem State.captureZS_getPair (v : Byte) (p : Pair) :
    (s.captureZS v).getPair p = s.getPair p := by cases p <;> rfl
@[simp] theorem State.captureZS_readByte (v : Byte) (x : Addr) : (s.captureZS v).readByte x = s.readByte x := rfl

/-! ### FLAGS -/

@[simp] theorem State.setFlagByte_b (v : Byte) : (s.setFlagByte v).b = s.b := rfl
@[simp] theorem State.setFlagByte_c (v : Byte) : (s.setFlagByte v).c = s.c := rfl
@[simp] theorem State.setFlagByte_d (v : Byte) : (s.setFlagByte v).d = s.d := rfl
@[simp] theorem State.setFlagByte_e (v : Byte) : (s.setFlagByte v).e = s.e := rfl
@[simp] theorem State.setFlagByte_h (v : Byte) : (s.setFlagByte v).h = s.h := rfl
@[simp] theorem State.setFlagByte_l (v : Byte) : (s.setFlagByte v).l = s.l := rfl
@[simp] theorem State.setFlagByte_a (v : Byte) : (s.setFlagByte v).a = s.a := rfl
@[simp] theorem State.setFlagByte_pch (v : Byte) : (s.setFlagByte v).pch = s.pch := rfl
@[simp] theorem State.setFlagByte_pcl (v : Byte) : (s.setFlagByte v).pcl = s.pcl := rfl
@[simp] theorem State.setFlagByte_sph (v : Byte) : (s.setFlagByte v).sph = s.sph := rfl
@[simp] theorem State.setFlagByte_spl (v : Byte) : (s.setFlagByte v).spl = s.spl := rfl
@[simp] theorem State.setFlagByte_mah (v : Byte) : (s.setFlagByte v).mah = s.mah := rfl
@[simp] theorem State.setFlagByte_mal (v : Byte) : (s.setFlagByte v).mal = s.mal := rfl
@[simp] theorem State.setFlagByte_ir (v : Byte) : (s.setFlagByte v).ir = s.ir := rfl
@[simp] theorem State.setFlagByte_cy (v : Byte) : (s.setFlagByte v).cy = v.getLsbD 0 := rfl
@[simp] theorem State.setFlagByte_zf (v : Byte) : (s.setFlagByte v).zf = v.getLsbD 6 := rfl
@[simp] theorem State.setFlagByte_sf (v : Byte) : (s.setFlagByte v).sf = v.getLsbD 7 := rfl
@[simp] theorem State.setFlagByte_inte (v : Byte) : (s.setFlagByte v).inte = s.inte := rfl
@[simp] theorem State.setFlagByte_chain (v : Byte) : (s.setFlagByte v).chain = s.chain := rfl
@[simp] theorem State.setFlagByte_step (v : Byte) : (s.setFlagByte v).step = s.step := rfl
@[simp] theorem State.setFlagByte_mem (v : Byte) : (s.setFlagByte v).mem = s.mem := rfl
@[simp] theorem State.setFlagByte_bc (v : Byte) : (s.setFlagByte v).bc = s.bc := rfl
@[simp] theorem State.setFlagByte_de (v : Byte) : (s.setFlagByte v).de = s.de := rfl
@[simp] theorem State.setFlagByte_hl (v : Byte) : (s.setFlagByte v).hl = s.hl := rfl
@[simp] theorem State.setFlagByte_pc (v : Byte) : (s.setFlagByte v).pc = s.pc := rfl
@[simp] theorem State.setFlagByte_sp (v : Byte) : (s.setFlagByte v).sp = s.sp := rfl
@[simp] theorem State.setFlagByte_ma (v : Byte) : (s.setFlagByte v).ma = s.ma := rfl
@[simp] theorem State.setFlagByte_getReg (v : Byte) (r : Reg) :
    (s.setFlagByte v).getReg r = s.getReg r := by cases r <;> rfl
@[simp] theorem State.setFlagByte_getPair (v : Byte) (p : Pair) :
    (s.setFlagByte v).getPair p = s.getPair p := by cases p <;> rfl
@[simp] theorem State.setFlagByte_readByte (v : Byte) (x : Addr) : (s.setFlagByte v).readByte x = s.readByte x := rfl

/-! ### BC -/

@[simp] theorem State.setBC_b (v : Addr) : (s.setBC v).b = hiByte v := rfl
@[simp] theorem State.setBC_c (v : Addr) : (s.setBC v).c = loByte v := rfl
@[simp] theorem State.setBC_d (v : Addr) : (s.setBC v).d = s.d := rfl
@[simp] theorem State.setBC_e (v : Addr) : (s.setBC v).e = s.e := rfl
@[simp] theorem State.setBC_h (v : Addr) : (s.setBC v).h = s.h := rfl
@[simp] theorem State.setBC_l (v : Addr) : (s.setBC v).l = s.l := rfl
@[simp] theorem State.setBC_a (v : Addr) : (s.setBC v).a = s.a := rfl
@[simp] theorem State.setBC_pch (v : Addr) : (s.setBC v).pch = s.pch := rfl
@[simp] theorem State.setBC_pcl (v : Addr) : (s.setBC v).pcl = s.pcl := rfl
@[simp] theorem State.setBC_sph (v : Addr) : (s.setBC v).sph = s.sph := rfl
@[simp] theorem State.setBC_spl (v : Addr) : (s.setBC v).spl = s.spl := rfl
@[simp] theorem State.setBC_mah (v : Addr) : (s.setBC v).mah = s.mah := rfl
@[simp] theorem State.setBC_mal (v : Addr) : (s.setBC v).mal = s.mal := rfl
@[simp] theorem State.setBC_ir (v : Addr) : (s.setBC v).ir = s.ir := rfl
@[simp] theorem State.setBC_cy (v : Addr) : (s.setBC v).cy = s.cy := rfl
@[simp] theorem State.setBC_zf (v : Addr) : (s.setBC v).zf = s.zf := rfl
@[simp] theorem State.setBC_sf (v : Addr) : (s.setBC v).sf = s.sf := rfl
@[simp] theorem State.setBC_inte (v : Addr) : (s.setBC v).inte = s.inte := rfl
@[simp] theorem State.setBC_chain (v : Addr) : (s.setBC v).chain = s.chain := rfl
@[simp] theorem State.setBC_step (v : Addr) : (s.setBC v).step = s.step := rfl
@[simp] theorem State.setBC_mem (v : Addr) : (s.setBC v).mem = s.mem := rfl
@[simp] theorem State.setBC_bc (v : Addr) : (s.setBC v).bc = v := pairOf_hiByte_loByte v
@[simp] theorem State.setBC_de (v : Addr) : (s.setBC v).de = s.de := rfl
@[simp] theorem State.setBC_hl (v : Addr) : (s.setBC v).hl = s.hl := rfl
@[simp] theorem State.setBC_pc (v : Addr) : (s.setBC v).pc = s.pc := rfl
@[simp] theorem State.setBC_sp (v : Addr) : (s.setBC v).sp = s.sp := rfl
@[simp] theorem State.setBC_ma (v : Addr) : (s.setBC v).ma = s.ma := rfl
@[simp] theorem State.setBC_readByte (v : Addr) (x : Addr) : (s.setBC v).readByte x = s.readByte x := rfl

/-! ### DE -/

@[simp] theorem State.setDE_b (v : Addr) : (s.setDE v).b = s.b := rfl
@[simp] theorem State.setDE_c (v : Addr) : (s.setDE v).c = s.c := rfl
@[simp] theorem State.setDE_d (v : Addr) : (s.setDE v).d = hiByte v := rfl
@[simp] theorem State.setDE_e (v : Addr) : (s.setDE v).e = loByte v := rfl
@[simp] theorem State.setDE_h (v : Addr) : (s.setDE v).h = s.h := rfl
@[simp] theorem State.setDE_l (v : Addr) : (s.setDE v).l = s.l := rfl
@[simp] theorem State.setDE_a (v : Addr) : (s.setDE v).a = s.a := rfl
@[simp] theorem State.setDE_pch (v : Addr) : (s.setDE v).pch = s.pch := rfl
@[simp] theorem State.setDE_pcl (v : Addr) : (s.setDE v).pcl = s.pcl := rfl
@[simp] theorem State.setDE_sph (v : Addr) : (s.setDE v).sph = s.sph := rfl
@[simp] theorem State.setDE_spl (v : Addr) : (s.setDE v).spl = s.spl := rfl
@[simp] theorem State.setDE_mah (v : Addr) : (s.setDE v).mah = s.mah := rfl
@[simp] theorem State.setDE_mal (v : Addr) : (s.setDE v).mal = s.mal := rfl
@[simp] theorem State.setDE_ir (v : Addr) : (s.setDE v).ir = s.ir := rfl
@[simp] theorem State.setDE_cy (v : Addr) : (s.setDE v).cy = s.cy := rfl
@[simp] theorem State.setDE_zf (v : Addr) : (s.setDE v).zf = s.zf := rfl
@[simp] theorem State.setDE_sf (v : Addr) : (s.setDE v).sf = s.sf := rfl
@[simp] theorem State.setDE_inte (v : Addr) : (s.setDE v).inte = s.inte := rfl
@[simp] theorem State.setDE_chain (v : Addr) : (s.setDE v).chain = s.chain := rfl
@[simp] theorem State.setDE_step (v : Addr) : (s.setDE v).step = s.step := rfl
@[simp] theorem State.setDE_mem (v : Addr) : (s.setDE v).mem = s.mem := rfl
@[simp] theorem State.setDE_bc (v : Addr) : (s.setDE v).bc = s.bc := rfl
@[simp] theorem State.setDE_de (v : Addr) : (s.setDE v).de = v := pairOf_hiByte_loByte v
@[simp] theorem State.setDE_hl (v : Addr) : (s.setDE v).hl = s.hl := rfl
@[simp] theorem State.setDE_pc (v : Addr) : (s.setDE v).pc = s.pc := rfl
@[simp] theorem State.setDE_sp (v : Addr) : (s.setDE v).sp = s.sp := rfl
@[simp] theorem State.setDE_ma (v : Addr) : (s.setDE v).ma = s.ma := rfl
@[simp] theorem State.setDE_readByte (v : Addr) (x : Addr) : (s.setDE v).readByte x = s.readByte x := rfl

/-! ### HL -/

@[simp] theorem State.setHL_b (v : Addr) : (s.setHL v).b = s.b := rfl
@[simp] theorem State.setHL_c (v : Addr) : (s.setHL v).c = s.c := rfl
@[simp] theorem State.setHL_d (v : Addr) : (s.setHL v).d = s.d := rfl
@[simp] theorem State.setHL_e (v : Addr) : (s.setHL v).e = s.e := rfl
@[simp] theorem State.setHL_h (v : Addr) : (s.setHL v).h = hiByte v := rfl
@[simp] theorem State.setHL_l (v : Addr) : (s.setHL v).l = loByte v := rfl
@[simp] theorem State.setHL_a (v : Addr) : (s.setHL v).a = s.a := rfl
@[simp] theorem State.setHL_pch (v : Addr) : (s.setHL v).pch = s.pch := rfl
@[simp] theorem State.setHL_pcl (v : Addr) : (s.setHL v).pcl = s.pcl := rfl
@[simp] theorem State.setHL_sph (v : Addr) : (s.setHL v).sph = s.sph := rfl
@[simp] theorem State.setHL_spl (v : Addr) : (s.setHL v).spl = s.spl := rfl
@[simp] theorem State.setHL_mah (v : Addr) : (s.setHL v).mah = s.mah := rfl
@[simp] theorem State.setHL_mal (v : Addr) : (s.setHL v).mal = s.mal := rfl
@[simp] theorem State.setHL_ir (v : Addr) : (s.setHL v).ir = s.ir := rfl
@[simp] theorem State.setHL_cy (v : Addr) : (s.setHL v).cy = s.cy := rfl
@[simp] theorem State.setHL_zf (v : Addr) : (s.setHL v).zf = s.zf := rfl
@[simp] theorem State.setHL_sf (v : Addr) : (s.setHL v).sf = s.sf := rfl
@[simp] theorem State.setHL_inte (v : Addr) : (s.setHL v).inte = s.inte := rfl
@[simp] theorem State.setHL_chain (v : Addr) : (s.setHL v).chain = s.chain := rfl
@[simp] theorem State.setHL_step (v : Addr) : (s.setHL v).step = s.step := rfl
@[simp] theorem State.setHL_mem (v : Addr) : (s.setHL v).mem = s.mem := rfl
@[simp] theorem State.setHL_bc (v : Addr) : (s.setHL v).bc = s.bc := rfl
@[simp] theorem State.setHL_de (v : Addr) : (s.setHL v).de = s.de := rfl
@[simp] theorem State.setHL_hl (v : Addr) : (s.setHL v).hl = v := pairOf_hiByte_loByte v
@[simp] theorem State.setHL_pc (v : Addr) : (s.setHL v).pc = s.pc := rfl
@[simp] theorem State.setHL_sp (v : Addr) : (s.setHL v).sp = s.sp := rfl
@[simp] theorem State.setHL_ma (v : Addr) : (s.setHL v).ma = s.ma := rfl
@[simp] theorem State.setHL_readByte (v : Addr) (x : Addr) : (s.setHL v).readByte x = s.readByte x := rfl

/-! ### PC -/

@[simp] theorem State.setPC_b (v : Addr) : (s.setPC v).b = s.b := rfl
@[simp] theorem State.setPC_c (v : Addr) : (s.setPC v).c = s.c := rfl
@[simp] theorem State.setPC_d (v : Addr) : (s.setPC v).d = s.d := rfl
@[simp] theorem State.setPC_e (v : Addr) : (s.setPC v).e = s.e := rfl
@[simp] theorem State.setPC_h (v : Addr) : (s.setPC v).h = s.h := rfl
@[simp] theorem State.setPC_l (v : Addr) : (s.setPC v).l = s.l := rfl
@[simp] theorem State.setPC_a (v : Addr) : (s.setPC v).a = s.a := rfl
@[simp] theorem State.setPC_pch (v : Addr) : (s.setPC v).pch = hiByte v := rfl
@[simp] theorem State.setPC_pcl (v : Addr) : (s.setPC v).pcl = loByte v := rfl
@[simp] theorem State.setPC_sph (v : Addr) : (s.setPC v).sph = s.sph := rfl
@[simp] theorem State.setPC_spl (v : Addr) : (s.setPC v).spl = s.spl := rfl
@[simp] theorem State.setPC_mah (v : Addr) : (s.setPC v).mah = s.mah := rfl
@[simp] theorem State.setPC_mal (v : Addr) : (s.setPC v).mal = s.mal := rfl
@[simp] theorem State.setPC_ir (v : Addr) : (s.setPC v).ir = s.ir := rfl
@[simp] theorem State.setPC_cy (v : Addr) : (s.setPC v).cy = s.cy := rfl
@[simp] theorem State.setPC_zf (v : Addr) : (s.setPC v).zf = s.zf := rfl
@[simp] theorem State.setPC_sf (v : Addr) : (s.setPC v).sf = s.sf := rfl
@[simp] theorem State.setPC_inte (v : Addr) : (s.setPC v).inte = s.inte := rfl
@[simp] theorem State.setPC_chain (v : Addr) : (s.setPC v).chain = s.chain := rfl
@[simp] theorem State.setPC_step (v : Addr) : (s.setPC v).step = s.step := rfl
@[simp] theorem State.setPC_mem (v : Addr) : (s.setPC v).mem = s.mem := rfl
@[simp] theorem State.setPC_bc (v : Addr) : (s.setPC v).bc = s.bc := rfl
@[simp] theorem State.setPC_de (v : Addr) : (s.setPC v).de = s.de := rfl
@[simp] theorem State.setPC_hl (v : Addr) : (s.setPC v).hl = s.hl := rfl
@[simp] theorem State.setPC_pc (v : Addr) : (s.setPC v).pc = v := pairOf_hiByte_loByte v
@[simp] theorem State.setPC_sp (v : Addr) : (s.setPC v).sp = s.sp := rfl
@[simp] theorem State.setPC_ma (v : Addr) : (s.setPC v).ma = s.ma := rfl
@[simp] theorem State.setPC_getReg (v : Addr) (r : Reg) : (s.setPC v).getReg r = s.getReg r := by cases r <;> rfl
@[simp] theorem State.setPC_getPair (v : Addr) (p : Pair) : (s.setPC v).getPair p = s.getPair p := by cases p <;> rfl
@[simp] theorem State.setPC_readByte (v : Addr) (x : Addr) : (s.setPC v).readByte x = s.readByte x := rfl

/-! ### SP -/

@[simp] theorem State.setSP_b (v : Addr) : (s.setSP v).b = s.b := rfl
@[simp] theorem State.setSP_c (v : Addr) : (s.setSP v).c = s.c := rfl
@[simp] theorem State.setSP_d (v : Addr) : (s.setSP v).d = s.d := rfl
@[simp] theorem State.setSP_e (v : Addr) : (s.setSP v).e = s.e := rfl
@[simp] theorem State.setSP_h (v : Addr) : (s.setSP v).h = s.h := rfl
@[simp] theorem State.setSP_l (v : Addr) : (s.setSP v).l = s.l := rfl
@[simp] theorem State.setSP_a (v : Addr) : (s.setSP v).a = s.a := rfl
@[simp] theorem State.setSP_pch (v : Addr) : (s.setSP v).pch = s.pch := rfl
@[simp] theorem State.setSP_pcl (v : Addr) : (s.setSP v).pcl = s.pcl := rfl
@[simp] theorem State.setSP_sph (v : Addr) : (s.setSP v).sph = hiByte v := rfl
@[simp] theorem State.setSP_spl (v : Addr) : (s.setSP v).spl = loByte v := rfl
@[simp] theorem State.setSP_mah (v : Addr) : (s.setSP v).mah = s.mah := rfl
@[simp] theorem State.setSP_mal (v : Addr) : (s.setSP v).mal = s.mal := rfl
@[simp] theorem State.setSP_ir (v : Addr) : (s.setSP v).ir = s.ir := rfl
@[simp] theorem State.setSP_cy (v : Addr) : (s.setSP v).cy = s.cy := rfl
@[simp] theorem State.setSP_zf (v : Addr) : (s.setSP v).zf = s.zf := rfl
@[simp] theorem State.setSP_sf (v : Addr) : (s.setSP v).sf = s.sf := rfl
@[simp] theorem State.setSP_inte (v : Addr) : (s.setSP v).inte = s.inte := rfl
@[simp] theorem State.setSP_chain (v : Addr) : (s.setSP v).chain = s.chain := rfl
@[simp] theorem State.setSP_step (v : Addr) : (s.setSP v).step = s.step := rfl
@[simp] theorem State.setSP_mem (v : Addr) : (s.setSP v).mem = s.mem := rfl
@[simp] theorem State.setSP_bc (v : Addr) : (s.setSP v).bc = s.bc := rfl
@[simp] theorem State.setSP_de (v : Addr) : (s.setSP v).de = s.de := rfl
@[simp] theorem State.setSP_hl (v : Addr) : (s.setSP v).hl = s.hl := rfl
@[simp] theorem State.setSP_pc (v : Addr) : (s.setSP v).pc = s.pc := rfl
@[simp] theorem State.setSP_sp (v : Addr) : (s.setSP v).sp = v := pairOf_hiByte_loByte v
@[simp] theorem State.setSP_ma (v : Addr) : (s.setSP v).ma = s.ma := rfl
@[simp] theorem State.setSP_getReg (v : Addr) (r : Reg) : (s.setSP v).getReg r = s.getReg r := by cases r <;> rfl
@[simp] theorem State.setSP_readByte (v : Addr) (x : Addr) : (s.setSP v).readByte x = s.readByte x := rfl

/-! ### MA -/

@[simp] theorem State.setMA_b (v : Addr) : (s.setMA v).b = s.b := rfl
@[simp] theorem State.setMA_c (v : Addr) : (s.setMA v).c = s.c := rfl
@[simp] theorem State.setMA_d (v : Addr) : (s.setMA v).d = s.d := rfl
@[simp] theorem State.setMA_e (v : Addr) : (s.setMA v).e = s.e := rfl
@[simp] theorem State.setMA_h (v : Addr) : (s.setMA v).h = s.h := rfl
@[simp] theorem State.setMA_l (v : Addr) : (s.setMA v).l = s.l := rfl
@[simp] theorem State.setMA_a (v : Addr) : (s.setMA v).a = s.a := rfl
@[simp] theorem State.setMA_pch (v : Addr) : (s.setMA v).pch = s.pch := rfl
@[simp] theorem State.setMA_pcl (v : Addr) : (s.setMA v).pcl = s.pcl := rfl
@[simp] theorem State.setMA_sph (v : Addr) : (s.setMA v).sph = s.sph := rfl
@[simp] theorem State.setMA_spl (v : Addr) : (s.setMA v).spl = s.spl := rfl
@[simp] theorem State.setMA_mah (v : Addr) : (s.setMA v).mah = hiByte v := rfl
@[simp] theorem State.setMA_mal (v : Addr) : (s.setMA v).mal = loByte v := rfl
@[simp] theorem State.setMA_ir (v : Addr) : (s.setMA v).ir = s.ir := rfl
@[simp] theorem State.setMA_cy (v : Addr) : (s.setMA v).cy = s.cy := rfl
@[simp] theorem State.setMA_zf (v : Addr) : (s.setMA v).zf = s.zf := rfl
@[simp] theorem State.setMA_sf (v : Addr) : (s.setMA v).sf = s.sf := rfl
@[simp] theorem State.setMA_inte (v : Addr) : (s.setMA v).inte = s.inte := rfl
@[simp] theorem State.setMA_chain (v : Addr) : (s.setMA v).chain = s.chain := rfl
@[simp] theorem State.setMA_step (v : Addr) : (s.setMA v).step = s.step := rfl
@[simp] theorem State.setMA_mem (v : Addr) : (s.setMA v).mem = s.mem := rfl
@[simp] theorem State.setMA_bc (v : Addr) : (s.setMA v).bc = s.bc := rfl
@[simp] theorem State.setMA_de (v : Addr) : (s.setMA v).de = s.de := rfl
@[simp] theorem State.setMA_hl (v : Addr) : (s.setMA v).hl = s.hl := rfl
@[simp] theorem State.setMA_pc (v : Addr) : (s.setMA v).pc = s.pc := rfl
@[simp] theorem State.setMA_sp (v : Addr) : (s.setMA v).sp = s.sp := rfl
@[simp] theorem State.setMA_ma (v : Addr) : (s.setMA v).ma = v := pairOf_hiByte_loByte v
@[simp] theorem State.setMA_getReg (v : Addr) (r : Reg) : (s.setMA v).getReg r = s.getReg r := by cases r <;> rfl
@[simp] theorem State.setMA_getPair (v : Addr) (p : Pair) : (s.setMA v).getPair p = s.getPair p := by cases p <;> rfl
@[simp] theorem State.setMA_readByte (v : Addr) (x : Addr) : (s.setMA v).readByte x = s.readByte x := rfl

/-! ### MAL -/

@[simp] theorem State.setMAL_b (v : Byte) : (s.setMAL v).b = s.b := rfl
@[simp] theorem State.setMAL_c (v : Byte) : (s.setMAL v).c = s.c := rfl
@[simp] theorem State.setMAL_d (v : Byte) : (s.setMAL v).d = s.d := rfl
@[simp] theorem State.setMAL_e (v : Byte) : (s.setMAL v).e = s.e := rfl
@[simp] theorem State.setMAL_h (v : Byte) : (s.setMAL v).h = s.h := rfl
@[simp] theorem State.setMAL_l (v : Byte) : (s.setMAL v).l = s.l := rfl
@[simp] theorem State.setMAL_a (v : Byte) : (s.setMAL v).a = s.a := rfl
@[simp] theorem State.setMAL_pch (v : Byte) : (s.setMAL v).pch = s.pch := rfl
@[simp] theorem State.setMAL_pcl (v : Byte) : (s.setMAL v).pcl = s.pcl := rfl
@[simp] theorem State.setMAL_sph (v : Byte) : (s.setMAL v).sph = s.sph := rfl
@[simp] theorem State.setMAL_spl (v : Byte) : (s.setMAL v).spl = s.spl := rfl
@[simp] theorem State.setMAL_mah (v : Byte) : (s.setMAL v).mah = s.mah := rfl
@[simp] theorem State.setMAL_mal (v : Byte) : (s.setMAL v).mal = v := rfl
@[simp] theorem State.setMAL_ir (v : Byte) : (s.setMAL v).ir = s.ir := rfl
@[simp] theorem State.setMAL_cy (v : Byte) : (s.setMAL v).cy = s.cy := rfl
@[simp] theorem State.setMAL_zf (v : Byte) : (s.setMAL v).zf = s.zf := rfl
@[simp] theorem State.setMAL_sf (v : Byte) : (s.setMAL v).sf = s.sf := rfl
@[simp] theorem State.setMAL_inte (v : Byte) : (s.setMAL v).inte = s.inte := rfl
@[simp] theorem State.setMAL_chain (v : Byte) : (s.setMAL v).chain = s.chain := rfl
@[simp] theorem State.setMAL_step (v : Byte) : (s.setMAL v).step = s.step := rfl
@[simp] theorem State.setMAL_mem (v : Byte) : (s.setMAL v).mem = s.mem := rfl
@[simp] theorem State.setMAL_bc (v : Byte) : (s.setMAL v).bc = s.bc := rfl
@[simp] theorem State.setMAL_de (v : Byte) : (s.setMAL v).de = s.de := rfl
@[simp] theorem State.setMAL_hl (v : Byte) : (s.setMAL v).hl = s.hl := rfl
@[simp] theorem State.setMAL_pc (v : Byte) : (s.setMAL v).pc = s.pc := rfl
@[simp] theorem State.setMAL_sp (v : Byte) : (s.setMAL v).sp = s.sp := rfl
@[simp] theorem State.setMAL_getReg (v : Byte) (r : Reg) : (s.setMAL v).getReg r = s.getReg r := by cases r <;> rfl
@[simp] theorem State.setMAL_getPair (v : Byte) (p : Pair) :
    (s.setMAL v).getPair p = s.getPair p := by cases p <;> rfl
@[simp] theorem State.setMAL_readByte (v : Byte) (x : Addr) : (s.setMAL v).readByte x = s.readByte x := rfl

/-! ### After FETCH -/

@[simp] theorem State.fetched_b (op : Byte) : (s.fetched op).b = s.b := rfl
@[simp] theorem State.fetched_c (op : Byte) : (s.fetched op).c = s.c := rfl
@[simp] theorem State.fetched_d (op : Byte) : (s.fetched op).d = s.d := rfl
@[simp] theorem State.fetched_e (op : Byte) : (s.fetched op).e = s.e := rfl
@[simp] theorem State.fetched_h (op : Byte) : (s.fetched op).h = s.h := rfl
@[simp] theorem State.fetched_l (op : Byte) : (s.fetched op).l = s.l := rfl
@[simp] theorem State.fetched_a (op : Byte) : (s.fetched op).a = s.a := rfl
@[simp] theorem State.fetched_pch (op : Byte) : (s.fetched op).pch = s.pch := rfl
@[simp] theorem State.fetched_pcl (op : Byte) : (s.fetched op).pcl = s.pcl := rfl
@[simp] theorem State.fetched_sph (op : Byte) : (s.fetched op).sph = s.sph := rfl
@[simp] theorem State.fetched_spl (op : Byte) : (s.fetched op).spl = s.spl := rfl
@[simp] theorem State.fetched_mah (op : Byte) : (s.fetched op).mah = s.mah := rfl
@[simp] theorem State.fetched_mal (op : Byte) : (s.fetched op).mal = s.mal := rfl
@[simp] theorem State.fetched_ir (op : Byte) : (s.fetched op).ir = op := rfl
@[simp] theorem State.fetched_cy (op : Byte) : (s.fetched op).cy = s.cy := rfl
@[simp] theorem State.fetched_zf (op : Byte) : (s.fetched op).zf = s.zf := rfl
@[simp] theorem State.fetched_sf (op : Byte) : (s.fetched op).sf = s.sf := rfl
@[simp] theorem State.fetched_inte (op : Byte) : (s.fetched op).inte = s.inte := rfl
@[simp] theorem State.fetched_chain (op : Byte) : (s.fetched op).chain = false := rfl
@[simp] theorem State.fetched_step (op : Byte) : (s.fetched op).step = 0 := rfl
@[simp] theorem State.fetched_mem (op : Byte) : (s.fetched op).mem = s.mem := rfl
@[simp] theorem State.fetched_bc (op : Byte) : (s.fetched op).bc = s.bc := rfl
@[simp] theorem State.fetched_de (op : Byte) : (s.fetched op).de = s.de := rfl
@[simp] theorem State.fetched_hl (op : Byte) : (s.fetched op).hl = s.hl := rfl
@[simp] theorem State.fetched_pc (op : Byte) : (s.fetched op).pc = s.pc := rfl
@[simp] theorem State.fetched_sp (op : Byte) : (s.fetched op).sp = s.sp := rfl
@[simp] theorem State.fetched_ma (op : Byte) : (s.fetched op).ma = s.ma := rfl
@[simp] theorem State.fetched_getReg (op : Byte) (r : Reg) :
    (s.fetched op).getReg r = s.getReg r := by cases r <;> rfl
@[simp] theorem State.fetched_getPair (op : Byte) (p : Pair) :
    (s.fetched op).getPair p = s.getPair p := by cases p <;> rfl
@[simp] theorem State.fetched_readByte (op : Byte) (x : Addr) : (s.fetched op).readByte x = s.readByte x := rfl

/-! ### Memory -/

@[simp] theorem State.writeByte_b (x : Addr) (v : Byte) : (s.writeByte x v).b = s.b := rfl
@[simp] theorem State.writeByte_c (x : Addr) (v : Byte) : (s.writeByte x v).c = s.c := rfl
@[simp] theorem State.writeByte_d (x : Addr) (v : Byte) : (s.writeByte x v).d = s.d := rfl
@[simp] theorem State.writeByte_e (x : Addr) (v : Byte) : (s.writeByte x v).e = s.e := rfl
@[simp] theorem State.writeByte_h (x : Addr) (v : Byte) : (s.writeByte x v).h = s.h := rfl
@[simp] theorem State.writeByte_l (x : Addr) (v : Byte) : (s.writeByte x v).l = s.l := rfl
@[simp] theorem State.writeByte_a (x : Addr) (v : Byte) : (s.writeByte x v).a = s.a := rfl
@[simp] theorem State.writeByte_pch (x : Addr) (v : Byte) : (s.writeByte x v).pch = s.pch := rfl
@[simp] theorem State.writeByte_pcl (x : Addr) (v : Byte) : (s.writeByte x v).pcl = s.pcl := rfl
@[simp] theorem State.writeByte_sph (x : Addr) (v : Byte) : (s.writeByte x v).sph = s.sph := rfl
@[simp] theorem State.writeByte_spl (x : Addr) (v : Byte) : (s.writeByte x v).spl = s.spl := rfl
@[simp] theorem State.writeByte_mah (x : Addr) (v : Byte) : (s.writeByte x v).mah = s.mah := rfl
@[simp] theorem State.writeByte_mal (x : Addr) (v : Byte) : (s.writeByte x v).mal = s.mal := rfl
@[simp] theorem State.writeByte_ir (x : Addr) (v : Byte) : (s.writeByte x v).ir = s.ir := rfl
@[simp] theorem State.writeByte_cy (x : Addr) (v : Byte) : (s.writeByte x v).cy = s.cy := rfl
@[simp] theorem State.writeByte_zf (x : Addr) (v : Byte) : (s.writeByte x v).zf = s.zf := rfl
@[simp] theorem State.writeByte_sf (x : Addr) (v : Byte) : (s.writeByte x v).sf = s.sf := rfl
@[simp] theorem State.writeByte_inte (x : Addr) (v : Byte) : (s.writeByte x v).inte = s.inte := rfl
@[simp] theorem State.writeByte_chain (x : Addr) (v : Byte) : (s.writeByte x v).chain = s.chain := rfl
@[simp] theorem State.writeByte_step (x : Addr) (v : Byte) : (s.writeByte x v).step = s.step := rfl
@[simp] theorem State.writeByte_mem (x : Addr) (v : Byte) : (s.writeByte x v).mem = s.mem.write x v := rfl
@[simp] theorem State.writeByte_bc (x : Addr) (v : Byte) : (s.writeByte x v).bc = s.bc := rfl
@[simp] theorem State.writeByte_de (x : Addr) (v : Byte) : (s.writeByte x v).de = s.de := rfl
@[simp] theorem State.writeByte_hl (x : Addr) (v : Byte) : (s.writeByte x v).hl = s.hl := rfl
@[simp] theorem State.writeByte_pc (x : Addr) (v : Byte) : (s.writeByte x v).pc = s.pc := rfl
@[simp] theorem State.writeByte_sp (x : Addr) (v : Byte) : (s.writeByte x v).sp = s.sp := rfl
@[simp] theorem State.writeByte_ma (x : Addr) (v : Byte) : (s.writeByte x v).ma = s.ma := rfl
@[simp] theorem State.writeByte_getReg (x : Addr) (v : Byte) (r : Reg) :
    (s.writeByte x v).getReg r = s.getReg r := by cases r <;> rfl
@[simp] theorem State.writeByte_getPair (x : Addr) (v : Byte) (p : Pair) :
    (s.writeByte x v).getPair p = s.getPair p := by cases p <;> rfl

/-! ### A register operand -/

@[simp] theorem State.setReg_b (r : Reg) (v : Byte) :
    (s.setReg r v).b = if r = .b then v else s.b := by cases r <;> rfl
@[simp] theorem State.setReg_c (r : Reg) (v : Byte) :
    (s.setReg r v).c = if r = .c then v else s.c := by cases r <;> rfl
@[simp] theorem State.setReg_d (r : Reg) (v : Byte) :
    (s.setReg r v).d = if r = .d then v else s.d := by cases r <;> rfl
@[simp] theorem State.setReg_e (r : Reg) (v : Byte) :
    (s.setReg r v).e = if r = .e then v else s.e := by cases r <;> rfl
@[simp] theorem State.setReg_h (r : Reg) (v : Byte) :
    (s.setReg r v).h = if r = .h then v else s.h := by cases r <;> rfl
@[simp] theorem State.setReg_l (r : Reg) (v : Byte) :
    (s.setReg r v).l = if r = .l then v else s.l := by cases r <;> rfl
@[simp] theorem State.setReg_a (r : Reg) (v : Byte) :
    (s.setReg r v).a = if r = .a then v else s.a := by cases r <;> rfl
@[simp] theorem State.setReg_pch (r : Reg) (v : Byte) : (s.setReg r v).pch = s.pch := by cases r <;> rfl
@[simp] theorem State.setReg_pcl (r : Reg) (v : Byte) : (s.setReg r v).pcl = s.pcl := by cases r <;> rfl
@[simp] theorem State.setReg_sph (r : Reg) (v : Byte) : (s.setReg r v).sph = s.sph := by cases r <;> rfl
@[simp] theorem State.setReg_spl (r : Reg) (v : Byte) : (s.setReg r v).spl = s.spl := by cases r <;> rfl
@[simp] theorem State.setReg_mah (r : Reg) (v : Byte) : (s.setReg r v).mah = s.mah := by cases r <;> rfl
@[simp] theorem State.setReg_mal (r : Reg) (v : Byte) : (s.setReg r v).mal = s.mal := by cases r <;> rfl
@[simp] theorem State.setReg_ir (r : Reg) (v : Byte) : (s.setReg r v).ir = s.ir := by cases r <;> rfl
@[simp] theorem State.setReg_cy (r : Reg) (v : Byte) : (s.setReg r v).cy = s.cy := by cases r <;> rfl
@[simp] theorem State.setReg_zf (r : Reg) (v : Byte) : (s.setReg r v).zf = s.zf := by cases r <;> rfl
@[simp] theorem State.setReg_sf (r : Reg) (v : Byte) : (s.setReg r v).sf = s.sf := by cases r <;> rfl
@[simp] theorem State.setReg_inte (r : Reg) (v : Byte) : (s.setReg r v).inte = s.inte := by cases r <;> rfl
@[simp] theorem State.setReg_chain (r : Reg) (v : Byte) : (s.setReg r v).chain = s.chain := by cases r <;> rfl
@[simp] theorem State.setReg_step (r : Reg) (v : Byte) : (s.setReg r v).step = s.step := by cases r <;> rfl
@[simp] theorem State.setReg_mem (r : Reg) (v : Byte) : (s.setReg r v).mem = s.mem := by cases r <;> rfl
@[simp] theorem State.setReg_pc (r : Reg) (v : Byte) : (s.setReg r v).pc = s.pc := by cases r <;> rfl
@[simp] theorem State.setReg_sp (r : Reg) (v : Byte) : (s.setReg r v).sp = s.sp := by cases r <;> rfl
@[simp] theorem State.setReg_ma (r : Reg) (v : Byte) : (s.setReg r v).ma = s.ma := by cases r <;> rfl
@[simp] theorem State.setReg_readByte (r : Reg) (v : Byte) (x : Addr) : (s.setReg r v).readByte x = s.readByte x := by
  cases r <;> rfl

@[simp] theorem State.getReg_setReg (r r' : Reg) (v : Byte) :
    (s.setReg r v).getReg r' = if r = r' then v else s.getReg r' := by
  cases r <;> cases r' <;> rfl

/-! ### A pair operand -/

@[simp] theorem State.setPair_a (p : Pair) (v : Addr) : (s.setPair p v).a = s.a := by cases p <;> rfl
@[simp] theorem State.setPair_pch (p : Pair) (v : Addr) : (s.setPair p v).pch = s.pch := by cases p <;> rfl
@[simp] theorem State.setPair_pcl (p : Pair) (v : Addr) : (s.setPair p v).pcl = s.pcl := by cases p <;> rfl
@[simp] theorem State.setPair_mah (p : Pair) (v : Addr) : (s.setPair p v).mah = s.mah := by cases p <;> rfl
@[simp] theorem State.setPair_mal (p : Pair) (v : Addr) : (s.setPair p v).mal = s.mal := by cases p <;> rfl
@[simp] theorem State.setPair_ir (p : Pair) (v : Addr) : (s.setPair p v).ir = s.ir := by cases p <;> rfl
@[simp] theorem State.setPair_cy (p : Pair) (v : Addr) : (s.setPair p v).cy = s.cy := by cases p <;> rfl
@[simp] theorem State.setPair_zf (p : Pair) (v : Addr) : (s.setPair p v).zf = s.zf := by cases p <;> rfl
@[simp] theorem State.setPair_sf (p : Pair) (v : Addr) : (s.setPair p v).sf = s.sf := by cases p <;> rfl
@[simp] theorem State.setPair_inte (p : Pair) (v : Addr) : (s.setPair p v).inte = s.inte := by cases p <;> rfl
@[simp] theorem State.setPair_chain (p : Pair) (v : Addr) : (s.setPair p v).chain = s.chain := by cases p <;> rfl
@[simp] theorem State.setPair_step (p : Pair) (v : Addr) : (s.setPair p v).step = s.step := by cases p <;> rfl
@[simp] theorem State.setPair_mem (p : Pair) (v : Addr) : (s.setPair p v).mem = s.mem := by cases p <;> rfl
@[simp] theorem State.setPair_pc (p : Pair) (v : Addr) : (s.setPair p v).pc = s.pc := by cases p <;> rfl
@[simp] theorem State.setPair_ma (p : Pair) (v : Addr) : (s.setPair p v).ma = s.ma := by cases p <;> rfl
@[simp] theorem State.setPair_readByte (p : Pair) (v : Addr) (x : Addr) :
    (s.setPair p v).readByte x = s.readByte x := by
  cases p <;> rfl

@[simp] theorem State.getPair_setPair (p p' : Pair) (v : Addr) :
    (s.setPair p v).getPair p' = if p = p' then v else s.getPair p' := by
  cases p <;> cases p' <;> simp [State.setPair, State.getPair]

/-! ### The opening of an instruction -/

theorem State.opening_eq (op : Byte) (n : Nat) :
    s.opening op n =
      { s with
        pch := hiByte (s.pc + BitVec.ofNat 16 n), pcl := loByte (s.pc + BitVec.ofNat 16 n)
        ir := op, step := 0, chain := s.pc + BitVec.ofNat 16 n == 0 } := rfl

@[simp] theorem State.opening_b (op : Byte) (n : Nat) : (s.opening op n).b = s.b := rfl
@[simp] theorem State.opening_c (op : Byte) (n : Nat) : (s.opening op n).c = s.c := rfl
@[simp] theorem State.opening_d (op : Byte) (n : Nat) : (s.opening op n).d = s.d := rfl
@[simp] theorem State.opening_e (op : Byte) (n : Nat) : (s.opening op n).e = s.e := rfl
@[simp] theorem State.opening_h (op : Byte) (n : Nat) : (s.opening op n).h = s.h := rfl
@[simp] theorem State.opening_l (op : Byte) (n : Nat) : (s.opening op n).l = s.l := rfl
@[simp] theorem State.opening_a (op : Byte) (n : Nat) : (s.opening op n).a = s.a := rfl
@[simp] theorem State.opening_pch (op : Byte) (n : Nat) :
    (s.opening op n).pch = hiByte (s.pc + BitVec.ofNat 16 n) := rfl
@[simp] theorem State.opening_pcl (op : Byte) (n : Nat) :
    (s.opening op n).pcl = loByte (s.pc + BitVec.ofNat 16 n) := rfl
@[simp] theorem State.opening_sph (op : Byte) (n : Nat) : (s.opening op n).sph = s.sph := rfl
@[simp] theorem State.opening_spl (op : Byte) (n : Nat) : (s.opening op n).spl = s.spl := rfl
@[simp] theorem State.opening_mah (op : Byte) (n : Nat) : (s.opening op n).mah = s.mah := rfl
@[simp] theorem State.opening_mal (op : Byte) (n : Nat) : (s.opening op n).mal = s.mal := rfl
@[simp] theorem State.opening_ir (op : Byte) (n : Nat) : (s.opening op n).ir = op := rfl
@[simp] theorem State.opening_cy (op : Byte) (n : Nat) : (s.opening op n).cy = s.cy := rfl
@[simp] theorem State.opening_zf (op : Byte) (n : Nat) : (s.opening op n).zf = s.zf := rfl
@[simp] theorem State.opening_sf (op : Byte) (n : Nat) : (s.opening op n).sf = s.sf := rfl
@[simp] theorem State.opening_inte (op : Byte) (n : Nat) : (s.opening op n).inte = s.inte := rfl
@[simp] theorem State.opening_chain (op : Byte) (n : Nat) :
    (s.opening op n).chain = (s.pc + BitVec.ofNat 16 n == 0) := rfl
@[simp] theorem State.opening_step (op : Byte) (n : Nat) : (s.opening op n).step = 0 := rfl
@[simp] theorem State.opening_mem (op : Byte) (n : Nat) : (s.opening op n).mem = s.mem := rfl
@[simp] theorem State.opening_bc (op : Byte) (n : Nat) : (s.opening op n).bc = s.bc := rfl
@[simp] theorem State.opening_de (op : Byte) (n : Nat) : (s.opening op n).de = s.de := rfl
@[simp] theorem State.opening_hl (op : Byte) (n : Nat) : (s.opening op n).hl = s.hl := rfl
@[simp] theorem State.opening_sp (op : Byte) (n : Nat) : (s.opening op n).sp = s.sp := rfl
@[simp] theorem State.opening_ma (op : Byte) (n : Nat) : (s.opening op n).ma = s.ma := rfl
@[simp] theorem State.opening_pc (op : Byte) (n : Nat) : (s.opening op n).pc = s.pc + BitVec.ofNat 16 n :=
  pairOf_hiByte_loByte _
@[simp] theorem State.opening_readByte (op : Byte) (n : Nat) (x : Addr) :
    (s.opening op n).readByte x = s.readByte x := rfl
@[simp] theorem State.opening_getReg (op : Byte) (n : Nat) (r : Reg) : (s.opening op n).getReg r = s.getReg r := by
  cases r <;> rfl
@[simp] theorem State.opening_getPair (op : Byte) (n : Nat) (p : Pair) :
    (s.opening op n).getPair p = s.getPair p := by
  cases p <;> rfl

end Machine

end Sys2Proof
end

