-- ==== Sys2Proof/Laws/MicroOps.lean ====
section
/-! SUPPORT. The effect of every micro-operation (spec/42_micro_ops.md, the "Effect" of R141 to R170), as one step of the
datapath, and what the suffixes change (R171, R172). Every micro-operation without LAST also advances STEP. -/

namespace Sys2Proof.Machine

open MicroOp

variable (s : State)

/-- STEP advanced, for a word without LAST (R134). -/
abbrev State.nextStep (s : State) : State := { s with step := s.step + 1 }

/-! ### Transfers -/

theorem microStep_fetch :
    microStep fetch s = { s with ir := s.readByte s.pc, chain := false, step := s.step + 1 } := rfl

theorem microStep_mov (dst src : Sel) :
    microStep (mov dst src) s = ((s.latch dst s.hl (s.source src s.hl)).withChain false).nextStep := rfl

theorem microStep_ld (dst : Sel) (p : AdrSrc) :
    microStep (ld dst p) s = ((s.latch dst (s.address p) (s.readByte (s.address p))).withChain false).nextStep := rfl

theorem microStep_st (p : AdrSrc) (src : Sel) :
    microStep (st p src) s =
      ((s.writeByte (s.address p) (s.source src (s.address p))).withChain false).nextStep := rfl

/-! ### Increment and decrement -/

theorem microStep_incl (r : Sel) :
    microStep (incl r) s =
      ((s.latch r s.hl (s.source r s.hl + 1)).withChain (s.source r s.hl == 0xFF)).nextStep := rfl

theorem microStep_inch (r : Sel) :
    microStep (inch r) s =
      ((s.latch r s.hl (alu .inch s.a (s.source r s.hl) s.cy s.chain).1).withChain
        (alu .inch s.a (s.source r s.hl) s.cy s.chain).2).nextStep := rfl

theorem microStep_decl (r : Sel) :
    microStep (decl r) s =
      ((s.latch r s.hl (s.source r s.hl - 1)).withChain (s.source r s.hl == 0x00)).nextStep := rfl

theorem microStep_dech (r : Sel) :
    microStep (dech r) s =
      ((s.latch r s.hl (alu .dech s.a (s.source r s.hl) s.cy s.chain).1).withChain
        (alu .dech s.a (s.source r s.hl) s.cy s.chain).2).nextStep := rfl

theorem microStep_inr (r : Sel) :
    microStep (inr r) s =
      (((s.latch r s.hl (s.source r s.hl + 1)).withChain (s.source r s.hl == 0xFF)).captureZS
        (s.source r s.hl + 1)).nextStep := rfl

theorem microStep_dcr (r : Sel) :
    microStep (dcr r) s =
      (((s.latch r s.hl (s.source r s.hl - 1)).withChain (s.source r s.hl == 0x00)).captureZS
        (s.source r s.hl - 1)).nextStep := rfl

theorem microStep_inrM (dst : Sel) (p : AdrSrc) :
    microStep (inrM dst p) s =
      (((s.latch dst (s.address p) (s.readByte (s.address p) + 1)).withChain (s.readByte (s.address p) == 0xFF)).captureZS
        (s.readByte (s.address p) + 1)).nextStep := rfl

theorem microStep_dcrM (dst : Sel) (p : AdrSrc) :
    microStep (dcrM dst p) s =
      (((s.latch dst (s.address p) (s.readByte (s.address p) - 1)).withChain (s.readByte (s.address p) == 0x00)).captureZS
        (s.readByte (s.address p) - 1)).nextStep := rfl

/-! ### Accumulator arithmetic and logic -/

theorem microStep_acc (op : AccOp) (src : Sel) :
    microStep (acc op src) s = (s.accumulate op (s.source src s.hl)).nextStep := by
  cases op <;> rfl

theorem microStep_accM (op : AccOp) (p : AdrSrc) :
    microStep (accM op p) s = (s.accumulate op (s.readByte (s.address p))).nextStep := by
  cases op <;> rfl

theorem microStep_addc (dst src : Sel) :
    microStep (addc dst src) s =
      (((s.latch dst s.hl (alu .add s.a (s.source src s.hl) s.cy s.chain).1).withChain
        (alu .add s.a (s.source src s.hl) s.cy s.chain).2).withCY
        (alu .add s.a (s.source src s.hl) s.cy s.chain).2).nextStep := rfl

theorem microStep_adcc (dst src : Sel) :
    microStep (adcc dst src) s =
      (((s.latch dst s.hl (alu .adc s.a (s.source src s.hl) s.cy s.chain).1).withChain
        (alu .adc s.a (s.source src s.hl) s.cy s.chain).2).withCY
        (alu .adc s.a (s.source src s.hl) s.cy s.chain).2).nextStep := rfl

theorem microStep_xornf (src : Sel) :
    microStep (xornf src) s = { s with a := s.a ^^^ s.source src s.hl, chain := false, step := s.step + 1 } := rfl

theorem microStep_clr (r : Sel) : microStep (clr r) s = ((s.latch r s.hl 0x00).withChain false).nextStep := rfl

/-! ### Rotates -/

theorem microStep_rotRlc1 :
    microStep rotRlc1 s =
      { s with
        a := (alu .add s.a s.a s.cy s.chain).1, cy := (alu .add s.a s.a s.cy s.chain).2
        chain := (alu .add s.a s.a s.cy s.chain).2, step := s.step + 1 } := rfl

theorem microStep_rotRlc2 :
    microStep rotRlc2 s =
      { s with
        a := (alu .inch s.a s.a s.cy s.chain).1, chain := (alu .inch s.a s.a s.cy s.chain).2, step := s.step + 1 } := rfl

theorem microStep_rotRrc : microStep rotRrc s = (s.rotateA .rrc).nextStep := rfl

theorem microStep_rotRal : microStep rotRal s = (s.rotateA .adc).nextStep := rfl

theorem microStep_rotRar : microStep rotRar s = (s.rotateA .rar).nextStep := rfl

/-! ### Signals and the inert word -/

theorem microStep_idle : microStep idle s = { s with chain := false, step := s.step + 1 } := rfl

theorem microStep_sigStc : microStep sigStc s = { s with cy := true, chain := false, step := s.step + 1 } := rfl

theorem microStep_sigCmc : microStep sigCmc s = { s with cy := !s.cy, chain := false, step := s.step + 1 } := rfl

theorem microStep_sigXchg :
    microStep sigXchg s = { s with h := s.d, l := s.e, d := s.h, e := s.l, chain := false, step := s.step + 1 } := rfl

theorem microStep_sigEi : microStep sigEi s = { s with inte := true, chain := false, step := s.step + 1 } := rfl

theorem microStep_sigDi : microStep sigDi s = { s with inte := false, chain := false, step := s.step + 1 } := rfl

theorem microStep_rstvec :
    microStep rstvec s = { s with pcl := s.ir &&& 0x38, chain := false, step := s.step + 1 } := rfl

/-! ### Suffixes -/

/-- `+LAST` changes the step counter and nothing else (R171). -/
theorem microStep_withLast (u : ControlWord) : microStep (withLast u) s = { microStep u s with step := 0 } := rfl

/-- `+CS_c` with a flag condition does not change what a word that had none does (R172). -/
theorem microStep_withSelect (cc : Cond) (u : ControlWord) (h : u.csel = .none) :
    microStep (withSelect cc.csel u) s = microStep u s := by
  obtain ⟨src, dst, adr, op, ccap, zscap, csel, cset, ccpl, swap, ei, di, rsv, last⟩ := u
  subst h
  cases cc <;> rfl

end Sys2Proof.Machine
end

