-- ==== Sys2Proof/Laws/Ops.lean ====
section
/-! SUPPORT. One lemma per shared operation of Sys2Proof/Machine/Ops.lean that says everything it does: the whole state
after it, and every byte of memory where it stores. -/

namespace Sys2Proof.Machine

variable (s : State)

/-! ### The accumulator -/

/-- What an accumulator operation leaves (R153): A unless comparing, the three flags, CHAIN. -/
theorem State.accumulate_eq (op : AccOp) (x : Byte) :
    s.accumulate op x =
      { s with
        a := if op = .cmp then s.a else (alu op.alu s.a x s.cy s.chain).1
        zf := zeroOf (alu op.alu s.a x s.cy s.chain).1
        sf := signOf (alu op.alu s.a x s.cy s.chain).1
        cy := (alu op.alu s.a x s.cy s.chain).2
        chain := (alu op.alu s.a x s.cy s.chain).2 } := by
  cases op <;> rfl

/-- What a one-step rotate leaves (R161 to R163): A, CY, CHAIN. -/
theorem State.rotateA_eq (op : AluOp) :
    s.rotateA op =
      { s with
        a := (alu op s.a s.a s.cy s.chain).1
        cy := (alu op s.a s.a s.cy s.chain).2
        chain := (alu op s.a s.a s.cy s.chain).2 } := rfl

/-! ### The stack -/

/-- What a push leaves (R310): SP and memory. -/
theorem State.pushWord_eq (v : Addr) :
    s.pushWord v =
      { s with sph := hiByte (s.sp - 2), spl := loByte (s.sp - 2), mem := (s.pushWord v).mem } := rfl

/-- The memory a push leaves: the high byte at SP - 1, the low byte at SP - 2 (R42). -/
theorem State.pushWord_readByte (v x : Addr) :
    (s.pushWord v).readByte x =
      if x = s.sp - 2 then loByte v else if x = s.sp - 1 then hiByte v else s.readByte x := by
  simp [State.pushWord, State.readByte_writeByte]

/-- A push keeps the canonical form of memory. -/
theorem State.pushWord_wf (v : Addr) (h : s.mem.wf) : (s.pushWord v).mem.wf :=
  Memory.wf_write (Memory.wf_write h _ _) _ _

/-- What dropping the top word leaves: SP and CHAIN (R174). -/
theorem State.dropWord_eq :
    s.dropWord = { s with sph := hiByte (s.sp + 2), spl := loByte (s.sp + 2), chain := s.sp + 2 == 0 } := rfl

/-- The top word by its halves (R42). -/
@[simp] theorem State.hiByte_topWord : hiByte s.topWord = s.readByte (s.sp + 1) := hiByte_pairOf _ _

/-- The top word by its halves (R42). -/
@[simp] theorem State.loByte_topWord : loByte s.topWord = s.readByte s.sp := loByte_pairOf _ _

/-! ### Restart, call, jump, return -/

/-- What a restart leaves (R343): SP, PC, CHAIN and memory; no flag, no enable. -/
theorem State.restart_eq :
    s.restart =
      { s with
        sph := hiByte (s.sp - 2), spl := loByte (s.sp - 2)
        pch := 0x00, pcl := s.ir &&& 0x38, chain := false, mem := (s.pushWord s.pc).mem } := by
  have hh : hiByte (restartVector s.ir) = 0x00 := hiByte_pairOf _ _
  have hl : loByte (restartVector s.ir) = s.ir &&& 0x38 := loByte_pairOf _ _
  simp only [State.restart, State.setPC, State.withChain, State.pushWord, State.setSP, State.writeByte, hh, hl]

/-- What a call leaves (R280): SP, PC, MA, CHAIN and memory. -/
theorem State.callTo_eq (target : Addr) :
    s.callTo target =
      { s with
        sph := hiByte (s.sp - 2), spl := loByte (s.sp - 2)
        mah := hiByte target, mal := loByte target, pch := hiByte target, pcl := loByte target
        chain := false, mem := (s.pushWord s.pc).mem } := by
  simp only [State.callTo, State.setMA, State.setPC, State.withChain, State.pushWord, State.setSP, State.writeByte]

/-- What a jump leaves (R270): PC, MAL, CHAIN. -/
theorem State.jumpTo_eq (target : Addr) :
    s.jumpTo target =
      { s with mal := loByte target, pch := hiByte target, pcl := loByte target, chain := false } := rfl

/-- What a return leaves (R290): PC, SP, CHAIN. -/
theorem State.returnFrom_eq :
    s.returnFrom =
      { s with
        pch := s.readByte (s.sp + 1), pcl := s.readByte s.sp
        sph := hiByte (s.sp + 2), spl := loByte (s.sp + 2), chain := s.sp + 2 == 0 } := by
  simp [State.returnFrom, State.dropWord_eq, State.setPC, State.sp]

/-! ### Reset and placing bytes -/

/-- What asserting reset leaves (R360). -/
theorem State.assertReset_eq :
    s.assertReset = { s with pch := 0x00, pcl := 0x00, step := 0, inte := false } := by
  have hh : hiByte Config.resetPC = 0x00 := by decide
  have hl : loByte Config.resetPC = 0x00 := by decide
  simp only [State.assertReset, State.setPC, hh, hl]

/-- Placing bytes keeps every register. -/
theorem State.placeBytes_eq (a : Addr) (l : List Byte) : s.placeBytes a l = { s with mem := (s.placeBytes a l).mem } := by
  induction l generalizing s a with
  | nil => rfl
  | cons v rest ih => rw [State.placeBytes, ih]; rfl

/-- Placing bytes keeps the canonical form of memory. -/
theorem State.placeBytes_wf (a : Addr) (l : List Byte) (h : s.mem.wf) : (s.placeBytes a l).mem.wf := by
  induction l generalizing s a with
  | nil => exact h
  | cons v rest ih => exact ih _ _ (Memory.wf_write h _ _)

/-- What placing three bytes leaves in memory. -/
theorem State.placeBytes_three (a x : Addr) (u v w : Byte) :
    (s.placeBytes a [u, v, w]).readByte x =
      if x = a + 1 + 1 then w else if x = a + 1 then v else if x = a then u else s.readByte x := by
  simp [State.placeBytes, State.readByte_writeByte]

end Sys2Proof.Machine
end

