-- ==== Sys2Proof/Machine/Emitter.lean ====
section
/-! DEFINITION. The emitter (spec/43_sequencer_and_rom.md R197): a build-time consumer of the control store, which only
reads it. The header line and the case of the digits are OPEN in the spec and constants without a body here
(notes/assumptions/12.md). -/

namespace Sys2Proof.Machine

/-- One hexadecimal digit. -/
def hexDigit (upper : Bool) (n : Nat) : Char := if upper then (Nat.digitChar n).toUpper else Nat.digitChar n

/-- A word as an 8-digit hexadecimal number. -/
def hexWord (upper : Bool) (w : Word32) : String :=
  String.ofList ((List.range 8).map fun k => hexDigit upper (w.toNat / 16 ^ (7 - k) % 16))

/-- Line `k` after the header: the words of the flat indices `8 * k` to `8 * k + 7`, separated by spaces. -/
def emitLine (rom : RomAddr → Word32) (k : Nat) : String :=
  " ".intercalate ((List.range 8).map fun j => hexWord Config.romHexUppercase (rom (BitVec.ofNat 14 (8 * k + j))))

/-- The emitted lines, the header first; where the validator finds a violation, the opcode it reports and no line (R198). -/
def emit (rom : RomAddr → Word32) : Except Nat (List String) :=
  match validate rom with
  | some op => .error op
  | none => .ok (Config.romHeaderLine :: (List.range 2048).map (emitLine rom))

end Sys2Proof.Machine
end

