-- ==== Sys2Proof/Tests/Slice0.lean ====
section
/-! SUPPORT. The model's own tests. Expected results come from the spec: the opcode map (spec/30_encoding.md R75), the vectors
of spec/95_test_vectors.md and spec/96_micro_vectors_and_traces.md, and the worked examples of the rules. A `witness_`
theorem shows a concrete state that meets the hypotheses of the statement it names. -/

namespace Sys2Proof.Tests

open Sys2Proof.Machine

/-! ### Ill-formed terms that the checks refuse (R69, R187, R191 to R195) -/

theorem test_rsvZero_refuses : WordCheck.rsvZero { rsv := 1 } = false := by decide
theorem test_oneDriver_refuses : WordCheck.oneDriver { src := .m, dst := .m } = false := by decide
theorem test_irOnlyFetch_refuses : WordCheck.irOnlyFetch { src := .b, dst := .ir } = false := by decide
theorem test_irOnlyVector_refuses : WordCheck.irOnlyVector { src := .ir, dst := .pcl } = false := by decide
theorem test_irOnlyVector_gate_refuses : WordCheck.irOnlyVector { src := .b, dst := .pcl, csel := .rstv } = false := by decide
theorem test_flagsOnlyMemory_refuses : WordCheck.flagsOnlyMemory { src := .a, dst := .flags } = false := by decide
theorem test_flagsOnlyMemory_source_refuses : WordCheck.flagsOnlyMemory { src := .flags, dst := .a } = false := by decide
theorem test_oneFlagWrite_refuses : WordCheck.oneFlagWrite { ccap := true, cset := true } = false := by decide
theorem test_signalsInert_refuses : WordCheck.signalsInert { ei := true, di := true } = false := by decide
theorem test_signalsInert_transfer_refuses : WordCheck.signalsInert { swap := true, src := .a, dst := .b } = false := by decide
theorem test_cmpCaptures_refuses : WordCheck.cmpCaptures { src := .c, dst := .a, alu := .cmp, ccap := true } = false := by decide
theorem test_generated_refuses : ControlWord.generated { rsv := 1 } = false := by decide
theorem test_signalsInert_capture_refuses :
    WordCheck.signalsInert { ei := true, ccap := true } = false ∧ WordCheck.signalsInert { swap := true, zscap := true } = false
      ∧ (ControlWord.decode 0x00404000).generated = false := by decide
theorem test_signalsInert_accepts :
    ([MicroOp.sigStc, MicroOp.sigCmc, MicroOp.sigXchg, MicroOp.sigEi, MicroOp.sigDi].all fun f =>
      f.generated && (MicroOp.withLast f).generated) = true := by decide
theorem test_inert_refuses :
    ControlWord.inert { src := .a, dst := .b } = false ∧ ControlWord.inert { src := .m, dst := .m } = false
      ∧ ControlWord.inert { alu := .incl } = false ∧ ControlWord.inert { csel := .rstv } = false
      ∧ ControlWord.inert { ccap := true } = false ∧ ControlWord.inert MicroOp.idle = true := by decide
theorem test_generated_accepts : ControlWord.generated MicroOp.fetch = true := by decide

/-- A bank of the given used words. -/
def bankWith (used : List ControlWord) : List ControlWord := used ++ List.replicate (32 - used.length) MicroOp.idle

theorem test_startsWithFetch_refuses :
    BankCheck.startsWithFetch (bankWith [MicroOp.idle, MicroOp.withLast MicroOp.idle]) = false := by decide
theorem test_oneLast_refuses_none : BankCheck.oneLast (bankWith [MicroOp.fetch]) = false := by decide
theorem test_oneLast_refuses_two :
    BankCheck.oneLast (bankWith [MicroOp.fetch, MicroOp.withLast MicroOp.idle, MicroOp.withLast MicroOp.idle]) = false := by
  decide
theorem test_chains_refuses :
    BankCheck.chains (bankWith [MicroOp.fetch, MicroOp.incl .pcl, MicroOp.mov .a .b, MicroOp.inch .pch]) = false := by decide
theorem test_chains_refuses_sources :
    BankCheck.chains (bankWith [MicroOp.fetch, { src := .b, dst := .pcl, alu := .incl }, MicroOp.inch .pch]) = false
      ∧ BankCheck.chains (bankWith [MicroOp.fetch, MicroOp.decl .spl, { src := .b, dst := .sph, alu := .dech }]) = false := by
  decide
theorem test_chains_refuses_uncaptured_rlc :
    BankCheck.chains (bankWith [MicroOp.fetch, { src := .a, dst := .a, alu := .add }, MicroOp.rotRlc2]) = false
      ∧ BankCheck.chains (bankWith [MicroOp.fetch, MicroOp.acc .add .a, MicroOp.rotRlc2]) = false := by decide
theorem test_chains_accepts :
    BankCheck.chains (bankWith [MicroOp.fetch, MicroOp.rotRlc1, MicroOp.withLast MicroOp.rotRlc2]) = true
      ∧ BankCheck.chains (bankWith [MicroOp.fetch, MicroOp.decl .spl, MicroOp.dech .sph]) = true := by decide
theorem test_fetchOnce_refuses :
    BankCheck.fetchOnce (bankWith [MicroOp.fetch, MicroOp.fetch]) = false := by decide
theorem test_pairsUncaptured_refuses :
    BankCheck.pairsUncaptured (bankWith [MicroOp.fetch, MicroOp.inr .c, MicroOp.inch .b]) = false := by decide
theorem test_keepsFlags_refuses : BankCheck.keepsFlags (bankWith [MicroOp.fetch, MicroOp.sigStc]) = false := by decide
theorem test_selects_refuses :
    BankCheck.selects .z (bankWith [MicroOp.fetch, MicroOp.withLast (MicroOp.withSelect .nz MicroOp.idle)]) = false := by decide
theorem test_bankSplit_refuses :
    RowCheck.bankSplit 0x00 (bankWith [MicroOp.fetch, MicroOp.withLast MicroOp.idle]) (bankWith [MicroOp.fetch]) = false := by
  decide
theorem test_conditionSelect_refuses :
    RowCheck.conditionSelect 0xC8 (bankOf controlStore 0xC0 false) (bankOf controlStore 0xC0 true) = false := by decide
theorem test_conditionStable_refuses :
    RowCheck.conditionStable 0xC0 (bankWith [MicroOp.fetch, MicroOp.sigStc]) (bankWith [MicroOp.fetch]) = false := by decide
theorem test_captures_refuses : RowCheck.captures 0x09 (bankOf controlStore 0x00 false) = false := by decide
theorem test_wellFormedRow_accepts :
    wellFormedRow 0x2F (bankOf controlStore 0x2F false) (bankOf controlStore 0x2F true) = true := by decide
theorem test_rowAligned_refuses : rowAligned (fun _ => 0) 0x00 = false := by decide

/-! ### Decoding: every opcode value, written out from the opcode map (R75, R72); operand bytes 34 12 -/

/-- The list of encodings decodes to the list of instructions, with nothing left over. -/
abbrev Decodes (rows : List (List Byte × Instr)) : Prop := ∀ r ∈ rows, decode r.1 = .ok (r.2, [])

theorem test_decode_0x : Decodes
    [([0b00000000], .nop), ([0b00000001, 0x34, 0x12], .lxiB 0x1234), ([0b00000010], .staxB),
      ([0b00000011], .inxB), ([0b00000100], .inrB), ([0b00000101], .dcrB), ([0b00000110, 0x34], .mviB 0x34),
      ([0b00000111], .rlc), ([0b00001000], .nop08), ([0b00001001], .dadB), ([0b00001010], .ldaxB),
      ([0b00001011], .dcxB), ([0b00001100], .inrC), ([0b00001101], .dcrC), ([0b00001110, 0x34], .mviC 0x34),
      ([0b00001111], .rrc)] := by decide
theorem test_decode_1x : Decodes
    [([0b00010000], .nop10), ([0b00010001, 0x34, 0x12], .lxiD 0x1234), ([0b00010010], .staxD),
      ([0b00010011], .inxD), ([0b00010100], .inrD), ([0b00010101], .dcrD), ([0b00010110, 0x34], .mviD 0x34),
      ([0b00010111], .ral), ([0b00011000], .nop18), ([0b00011001], .dadD), ([0b00011010], .ldaxD),
      ([0b00011011], .dcxD), ([0b00011100], .inrE), ([0b00011101], .dcrE), ([0b00011110, 0x34], .mviE 0x34),
      ([0b00011111], .rar)] := by decide
theorem test_decode_2x : Decodes
    [([0b00100000], .nop20), ([0b00100001, 0x34, 0x12], .lxiH 0x1234), ([0b00100010, 0x34, 0x12], .shld 0x1234),
      ([0b00100011], .inxH), ([0b00100100], .inrH), ([0b00100101], .dcrH), ([0b00100110, 0x34], .mviH 0x34),
      ([0b00100111], .daa), ([0b00101000], .nop28), ([0b00101001], .dadH),
      ([0b00101010, 0x34, 0x12], .lhld 0x1234), ([0b00101011], .dcxH), ([0b00101100], .inrL),
      ([0b00101101], .dcrL), ([0b00101110, 0x34], .mviL 0x34), ([0b00101111], .cma)] := by decide
theorem test_decode_3x : Decodes
    [([0b00110000], .nop30), ([0b00110001, 0x34, 0x12], .lxiSp 0x1234), ([0b00110010, 0x34, 0x12], .sta 0x1234),
      ([0b00110011], .inxSp), ([0b00110100], .inrM), ([0b00110101], .dcrM), ([0b00110110, 0x34], .mviM 0x34),
      ([0b00110111], .stc), ([0b00111000], .nop38), ([0b00111001], .dadSp),
      ([0b00111010, 0x34, 0x12], .lda 0x1234), ([0b00111011], .dcxSp), ([0b00111100], .inrA),
      ([0b00111101], .dcrA), ([0b00111110, 0x34], .mviA 0x34), ([0b00111111], .cmc)] := by decide
theorem test_decode_4x : Decodes
    [([0b01000000], .movBB), ([0b01000001], .movBC), ([0b01000010], .movBD), ([0b01000011], .movBE),
      ([0b01000100], .movBH), ([0b01000101], .movBL), ([0b01000110], .movBM), ([0b01000111], .movBA),
      ([0b01001000], .movCB), ([0b01001001], .movCC), ([0b01001010], .movCD), ([0b01001011], .movCE),
      ([0b01001100], .movCH), ([0b01001101], .movCL), ([0b01001110], .movCM), ([0b01001111], .movCA)] := by decide
theorem test_decode_5x : Decodes
    [([0b01010000], .movDB), ([0b01010001], .movDC), ([0b01010010], .movDD), ([0b01010011], .movDE),
      ([0b01010100], .movDH), ([0b01010101], .movDL), ([0b01010110], .movDM), ([0b01010111], .movDA),
      ([0b01011000], .movEB), ([0b01011001], .movEC), ([0b01011010], .movED), ([0b01011011], .movEE),
      ([0b01011100], .movEH), ([0b01011101], .movEL), ([0b01011110], .movEM), ([0b01011111], .movEA)] := by decide
theorem test_decode_6x : Decodes
    [([0b01100000], .movHB), ([0b01100001], .movHC), ([0b01100010], .movHD), ([0b01100011], .movHE),
      ([0b01100100], .movHH), ([0b01100101], .movHL), ([0b01100110], .movHM), ([0b01100111], .movHA),
      ([0b01101000], .movLB), ([0b01101001], .movLC), ([0b01101010], .movLD), ([0b01101011], .movLE),
      ([0b01101100], .movLH), ([0b01101101], .movLL), ([0b01101110], .movLM), ([0b01101111], .movLA)] := by decide
theorem test_decode_7x : Decodes
    [([0b01110000], .movMB), ([0b01110001], .movMC), ([0b01110010], .movMD), ([0b01110011], .movME),
      ([0b01110100], .movMH), ([0b01110101], .movML), ([0b01110110], .hlt), ([0b01110111], .movMA),
      ([0b01111000], .movAB), ([0b01111001], .movAC), ([0b01111010], .movAD), ([0b01111011], .movAE),
      ([0b01111100], .movAH), ([0b01111101], .movAL), ([0b01111110], .movAM), ([0b01111111], .movAA)] := by decide
theorem test_decode_8x : Decodes
    [([0b10000000], .addB), ([0b10000001], .addC), ([0b10000010], .addD), ([0b10000011], .addE),
      ([0b10000100], .addH), ([0b10000101], .addL), ([0b10000110], .addM), ([0b10000111], .addA),
      ([0b10001000], .adcB), ([0b10001001], .adcC), ([0b10001010], .adcD), ([0b10001011], .adcE),
      ([0b10001100], .adcH), ([0b10001101], .adcL), ([0b10001110], .adcM), ([0b10001111], .adcA)] := by decide
theorem test_decode_9x : Decodes
    [([0b10010000], .subB), ([0b10010001], .subC), ([0b10010010], .subD), ([0b10010011], .subE),
      ([0b10010100], .subH), ([0b10010101], .subL), ([0b10010110], .subM), ([0b10010111], .subA),
      ([0b10011000], .sbbB), ([0b10011001], .sbbC), ([0b10011010], .sbbD), ([0b10011011], .sbbE),
      ([0b10011100], .sbbH), ([0b10011101], .sbbL), ([0b10011110], .sbbM), ([0b10011111], .sbbA)] := by decide
theorem test_decode_Ax : Decodes
    [([0b10100000], .anaB), ([0b10100001], .anaC), ([0b10100010], .anaD), ([0b10100011], .anaE),
      ([0b10100100], .anaH), ([0b10100101], .anaL), ([0b10100110], .anaM), ([0b10100111], .anaA),
      ([0b10101000], .xraB), ([0b10101001], .xraC), ([0b10101010], .xraD), ([0b10101011], .xraE),
      ([0b10101100], .xraH), ([0b10101101], .xraL), ([0b10101110], .xraM), ([0b10101111], .xraA)] := by decide
theorem test_decode_Bx : Decodes
    [([0b10110000], .oraB), ([0b10110001], .oraC), ([0b10110010], .oraD), ([0b10110011], .oraE),
      ([0b10110100], .oraH), ([0b10110101], .oraL), ([0b10110110], .oraM), ([0b10110111], .oraA),
      ([0b10111000], .cmpB), ([0b10111001], .cmpC), ([0b10111010], .cmpD), ([0b10111011], .cmpE),
      ([0b10111100], .cmpH), ([0b10111101], .cmpL), ([0b10111110], .cmpM), ([0b10111111], .cmpA)] := by decide
theorem test_decode_Cx : Decodes
    [([0b11000000], .rnz), ([0b11000001], .popB), ([0b11000010, 0x34, 0x12], .jnz 0x1234),
      ([0b11000011, 0x34, 0x12], .jmp 0x1234), ([0b11000100, 0x34, 0x12], .cnz 0x1234), ([0b11000101], .pushB),
      ([0b11000110, 0x34], .adi 0x34), ([0b11000111], .rst0), ([0b11001000], .rz), ([0b11001001], .ret),
      ([0b11001010, 0x34, 0x12], .jz 0x1234), ([0b11001011], .nopCB), ([0b11001100, 0x34, 0x12], .cz 0x1234),
      ([0b11001101, 0x34, 0x12], .call 0x1234), ([0b11001110, 0x34], .aci 0x34), ([0b11001111], .rst1)] := by decide
theorem test_decode_Dx : Decodes
    [([0b11010000], .rnc), ([0b11010001], .popD), ([0b11010010, 0x34, 0x12], .jnc 0x1234),
      ([0b11010011, 0x34], .outPort 0x34), ([0b11010100, 0x34, 0x12], .cnc 0x1234), ([0b11010101], .pushD),
      ([0b11010110, 0x34], .sui 0x34), ([0b11010111], .rst2), ([0b11011000], .rc), ([0b11011001], .nopD9),
      ([0b11011010, 0x34, 0x12], .jc 0x1234), ([0b11011011, 0x34], .inPort 0x34),
      ([0b11011100, 0x34, 0x12], .cc 0x1234), ([0b11011101], .nopDD), ([0b11011110, 0x34], .sbi 0x34),
      ([0b11011111], .rst3)] := by decide
theorem test_decode_Ex : Decodes
    [([0b11100000], .rpo), ([0b11100001], .popH), ([0b11100010, 0x34, 0x12], .jpo 0x1234),
      ([0b11100011], .xthl), ([0b11100100, 0x34, 0x12], .cpo 0x1234), ([0b11100101], .pushH),
      ([0b11100110, 0x34], .ani 0x34), ([0b11100111], .rst4), ([0b11101000], .rpe), ([0b11101001], .pchl),
      ([0b11101010, 0x34, 0x12], .jpe 0x1234), ([0b11101011], .xchg), ([0b11101100, 0x34, 0x12], .cpe 0x1234),
      ([0b11101101], .nopED), ([0b11101110, 0x34], .xri 0x34), ([0b11101111], .rst5)] := by decide
theorem test_decode_Fx : Decodes
    [([0b11110000], .rp), ([0b11110001], .popPsw), ([0b11110010, 0x34, 0x12], .jp 0x1234), ([0b11110011], .di),
      ([0b11110100, 0x34, 0x12], .cp 0x1234), ([0b11110101], .pushPsw), ([0b11110110, 0x34], .ori 0x34),
      ([0b11110111], .rst6), ([0b11111000], .rm), ([0b11111001], .sphl), ([0b11111010, 0x34, 0x12], .jm 0x1234),
      ([0b11111011], .ei), ([0b11111100, 0x34, 0x12], .cm 0x1234), ([0b11111101], .nopFD),
      ([0b11111110, 0x34], .cpi 0x34), ([0b11111111], .rst7)] := by decide

theorem test_decode_rest : decode [0x00, 0x76] = .ok (.nop, [0x76]) := by decide
theorem test_decode_empty : decode [] = .error .noOpcode := by decide
theorem test_decode_short : decode [0xC3, 0x34] = .error (.operandMissing 0xC3) := by decide
theorem test_decodeTableWord : decodeTableWord 24 0x1234C3 = some (.jmp 0x1234) := by decide
theorem test_decodeTableWord_masks : decodeTableWord 8 0x1234C3 = some (.jmp 0x0000) := by decide
theorem test_encode_call : encode (.call 0x1234) = [0xCD, 0x34, 0x12] := by decide

/-! ### Control words (spec/96_micro_vectors_and_traces.md part 1; the examples of spec/42_micro_ops.md) -/

theorem test_codec :
    [({} : ControlWord), { src := .m, dst := .ir, adr := .pc }, { src := .b, dst := .c, last := true },
      { src := .a, dst := .a, alu := .add, ccap := true },
      { src := .e, dst := .a, alu := .sub, ccap := true, zscap := true, last := true },
      { src := .m, dst := .a, alu := .cmp, ccap := true, zscap := true, last := true },
      { src := .ir, dst := .pcl, csel := .rstv }, { src := .pcl, dst := .pcl, alu := .incl, csel := .nz },
      { cset := true, last := true }, { ccpl := true }, { swap := true }, { ei := true }, { di := true },
      { src := .flags, dst := .m, adr := .sp }, { src := .m, dst := .flags, adr := .sp },
      { src := .mal, dst := .m, adr := .ma, alu := .decl, zscap := true }].map ControlWord.encode
    = [0x00000000, 0x000001F6, 0x80000010, 0x00006077, 0x8000E873, 0x8000FC76, 0x0007009F, 0x00010899, 0x80080000, 0x00100000,
      0x00200000, 0x00400000, 0x00800000, 0x0000026E, 0x000002E6, 0x0000936D] := by decide

theorem test_microOps :
    [MicroOp.mov .c .b, MicroOp.mov .pcl .mal, MicroOp.ld .c .pc, MicroOp.ld .a .ma, MicroOp.ld .pcl .sp, MicroOp.st .hl .a,
      MicroOp.st .sp .pch, MicroOp.st .ma .a, MicroOp.inch .mah, MicroOp.dech .sph, MicroOp.inr .b, MicroOp.dcr .a,
      MicroOp.inrM .mal .hl, MicroOp.dcrM .mal .hl, MicroOp.acc .add .b, MicroOp.acc .cmp .a, MicroOp.accM .sub .hl,
      MicroOp.accM .ana .pc, MicroOp.addc .l .c, MicroOp.adcc .h .b, MicroOp.xornf .mal, MicroOp.clr .mal].map
      ControlWord.encode
    = [0x00000010, 0x0000009D, 0x00000116, 0x00000376, 0x00000296, 0x00000067, 0x00000268, 0x00000367, 0x00000CCC, 0x000014AA,
      0x00008800, 0x00009077, 0x000088D6, 0x000090D6, 0x0000E070, 0x0000FC77, 0x0000E876, 0x0000F176, 0x00006051, 0x00006440,
      0x0000347D, 0x000004DD] := by decide

theorem test_suffixes :
    (MicroOp.withLast MicroOp.rstvec).encode = 0x8007009F
      ∧ (MicroOp.withSelect .nz (MicroOp.ld .pcl .sp)).encode = 0x00010296 := by decide

/-! ### The ALU (spec/96_micro_vectors_and_traces.md part 2) -/

theorem test_alu_unary :
    alu .byp 0 0x5A false false = (0x5A, false) ∧ alu .zero 0 0x77 false false = (0x00, false)
      ∧ alu .incl 0 0xFF false false = (0x00, true) ∧ alu .inch 0 0x12 false true = (0x13, false)
      ∧ alu .decl 0 0x00 false false = (0xFF, true) ∧ alu .dech 0 0x20 false true = (0x1F, false)
      ∧ alu .rar 0 0x6A true false = (0xB5, false) ∧ alu .rrc 0 0xF2 false false = (0x79, false) := by decide

theorem test_alu_binary :
    alu .add 0x6C 0x2E false false = (0x9A, false) ∧ alu .adc 0xFF 0xFF true false = (0xFF, true)
      ∧ alu .sub 0x7F 0x80 false false = (0xFF, true) ∧ alu .sbb 0x00 0xFF true false = (0x00, true)
      ∧ alu .and 0xFC 0x0F false false = (0x0C, false) ∧ alu .xor 0x3C 0xFF false false = (0xC3, false)
      ∧ alu .or 0x33 0x0F false false = (0x3F, false) ∧ alu .cmp 0x05 0x0A false false = (0xFB, true) := by decide

/-! ### One step (spec/95_test_vectors.md part 2): the start state has everything not named 0, PC 0x0100 -/

/-- The start state of the vectors, with the instruction's bytes at 0x0100. -/
def start (code : List Byte) : State := ({ State.reset with pch := 0x01 }).placeBytes 0x0100 code

/-- The state after one step, where there is one. -/
def after (s : State) : Option State :=
  match step s with
  | .next t => some t
  | .fault _ => none
  | .refused _ => none

/-- The state after the clocks of one instruction, where there is one. -/
def afterClocks (s : State) : Option State :=
  match microInstruction s with
  | .next t => some t
  | .fault _ => none
  | .refused _ => none

theorem test_movCB :
    (after { start [0x48] with b := 0x5A }).map (fun t => (t.c, t.pc)) = some (0x5A, 0x0101) := by decide
theorem test_movAA :
    (after { start [0x7F] with a := 0x99 }).map (fun t => t.pc) = some 0x0101 := by decide
theorem test_movBB :
    (after { start [0x40] with b := 0x12 }).map (fun t => t.pc) = some 0x0101 := by decide
theorem test_movLH :
    (after { start [0x6C] with h := 0x12, l := 0x34 }).map (fun t => (t.l, t.pc)) =
      some (0x12, 0x0101) := by decide
theorem test_movAM :
    (after { (start [0x7E]).writeByte 0x2000 0xA5 with h := 0x20, l := 0x00 }).map (fun t => (t.a, t.pc)) =
      some (0xA5, 0x0101) := by decide
theorem test_movHM :
    (after { (start [0x66]).writeByte 0x2000 0x30 with h := 0x20, l := 0x00 }).map (fun t => (t.h, t.pc)) =
      some (0x30, 0x0101) := by decide
theorem test_movMA :
    (after { start [0x77] with h := 0x20, l := 0x00, a := 0x42 }).map (fun t => (t.readByte 0x2000, t.pc)) =
      some (0x42, 0x0101) := by decide
theorem test_movMH :
    (after { start [0x74] with h := 0x20, l := 0x10 }).map (fun t => (t.readByte 0x2010, t.pc)) =
      some (0x20, 0x0101) := by decide
theorem test_mviB :
    (after (start [0x06, 0x7F])).map (fun t => (t.b, t.pc)) = some (0x7F, 0x0102) := by decide
theorem test_mviA :
    (after { start [0x3E, 0x00] with a := 0xFF }).map (fun t => (t.a, t.pc)) =
      some (0x00, 0x0102) := by decide
theorem test_mviM :
    (after { start [0x36, 0xEE] with h := 0xFF, l := 0xFF }).map (fun t => (t.readByte 0xFFFF, t.pc)) =
      some (0xEE, 0x0102) := by decide
theorem test_lxiB :
    (after (start [0x01, 0xCD, 0xAB])).map (fun t => (t.b, t.c, t.pc)) =
      some (0xAB, 0xCD, 0x0103) := by decide
theorem test_lxiSp :
    (after (start [0x31, 0x00, 0x80])).map (fun t => (t.sp, t.pc)) = some (0x8000, 0x0103) := by decide
theorem test_lxiH :
    (after (start [0x21, 0xFF, 0xFF])).map (fun t => (t.h, t.l, t.pc)) =
      some (0xFF, 0xFF, 0x0103) := by decide
theorem test_lda :
    (after ((start [0x3A, 0x00, 0x30]).writeByte 0x3000 0x5C)).map (fun t => (t.a, t.pc)) =
      some (0x5C, 0x0103) := by decide
theorem test_sta :
    (after { start [0x32, 0x00, 0x30] with a := 0x5C }).map (fun t => (t.readByte 0x3000, t.pc)) =
      some (0x5C, 0x0103) := by decide
theorem test_lhld :
    (after ((start [0x2A, 0xFF, 0x30]).writeByte 0x30FF 0x34 |>.writeByte 0x3100 0x12)).map (fun t => (t.h, t.l, t.pc)) =
      some (0x12, 0x34, 0x0103) := by decide
theorem test_shld :
    (after { start [0x22, 0x00, 0x30] with h := 0xBE, l := 0xEF }).map (fun t => (t.readByte 0x3000, t.readByte 0x3001, t.pc)) =
      some (0xEF, 0xBE, 0x0103) := by decide
theorem test_ldaxB :
    (after { (start [0x0A]).writeByte 0x2345 0x11 with b := 0x23, c := 0x45 }).map (fun t => (t.a, t.pc)) =
      some (0x11, 0x0101) := by decide
theorem test_ldaxD :
    (after { (start [0x1A]).writeByte 0x2345 0x22 with d := 0x23, e := 0x45 }).map (fun t => (t.a, t.pc)) =
      some (0x22, 0x0101) := by decide
theorem test_staxB :
    (after { start [0x02] with b := 0x23, c := 0x45, a := 0x33 }).map (fun t => (t.readByte 0x2345, t.pc)) =
      some (0x33, 0x0101) := by decide
theorem test_staxD :
    (after { start [0x12] with d := 0x23, e := 0x45, a := 0x44 }).map (fun t => (t.readByte 0x2345, t.pc)) =
      some (0x44, 0x0101) := by decide
theorem test_xchg :
    (after { start [0xEB] with h := 0x12, l := 0x34, d := 0xAB, e := 0xCD }).map (fun t => (t.d, t.e, t.h, t.l, t.pc)) =
      some (0x12, 0x34, 0xAB, 0xCD, 0x0101) := by decide
theorem test_addB :
    (after { start [0x80] with a := 0x6C, b := 0x2E }).map (fun t => (t.a, t.sf, t.pc)) =
      some (0x9A, true, 0x0101) := by decide
theorem test_addA :
    (after { start [0x87] with a := 0x80 }).map (fun t => (t.a, t.cy, t.zf, t.pc)) =
      some (0x00, true, true, 0x0101) := by decide
theorem test_addM :
    (after { (start [0x86]).writeByte 0x2000 0x01 with a := 0xFF, h := 0x20, l := 0x00 }).map (fun t => (t.a, t.cy, t.zf, t.pc)) =
      some (0x00, true, true, 0x0101) := by decide
theorem test_adcC :
    (after { start [0x89] with a := 0x3D, c := 0x42, cy := true }).map (fun t => (t.a, t.cy, t.sf, t.pc)) =
      some (0x80, false, true, 0x0101) := by decide
theorem test_adcA :
    (after { start [0x8F] with a := 0xFF, cy := true }).map (fun t => (t.sf, t.pc)) =
      some (true, 0x0101) := by decide
theorem test_subB :
    (after { start [0x90] with a := 0x00, b := 0x01 }).map (fun t => (t.a, t.cy, t.sf, t.pc)) =
      some (0xFF, true, true, 0x0101) := by decide
theorem test_subA :
    (after { start [0x97] with a := 0x3E, cy := true }).map (fun t => (t.a, t.cy, t.zf, t.pc)) =
      some (0x00, false, true, 0x0101) := by decide
theorem test_sbbD :
    (after { start [0x9A] with a := 0x04, d := 0x02, cy := true }).map (fun t => (t.a, t.cy, t.pc)) =
      some (0x01, false, 0x0101) := by decide
theorem test_sbbE :
    (after { start [0x9B] with a := 0x00, e := 0xFF, cy := true }).map (fun t => (t.zf, t.pc)) =
      some (true, 0x0101) := by decide
theorem test_anaB :
    (after { start [0xA0] with a := 0xFC, b := 0x0F, cy := true }).map (fun t => (t.a, t.cy, t.pc)) =
      some (0x0C, false, 0x0101) := by decide
theorem test_anaA :
    (after { start [0xA7] with a := 0x00, cy := true }).map (fun t => (t.cy, t.zf, t.pc)) =
      some (false, true, 0x0101) := by decide
theorem test_xraB :
    (after { start [0xA8] with a := 0x5C, b := 0x5C, cy := true }).map (fun t => (t.a, t.cy, t.zf, t.pc)) =
      some (0x00, false, true, 0x0101) := by decide
theorem test_xraA :
    (after { start [0xAF] with a := 0x99, cy := true, sf := true }).map (fun t => (t.a, t.cy, t.zf, t.sf, t.pc)) =
      some (0x00, false, true, false, 0x0101) := by decide
theorem test_oraC :
    (after { start [0xB1] with a := 0x33, c := 0x0F, cy := true }).map (fun t => (t.a, t.cy, t.pc)) =
      some (0x3F, false, 0x0101) := by decide
theorem test_oraA :
    (after { start [0xB7] with a := 0x80, cy := true, zf := true }).map (fun t => (t.cy, t.zf, t.sf, t.pc)) =
      some (false, false, true, 0x0101) := by decide
theorem test_cmpB :
    (after { start [0xB8] with a := 0x0A, b := 0x05 }).map (fun t => t.pc) = some 0x0101 := by decide
theorem test_cmpB_again :
    (after { start [0xB8] with a := 0x05, b := 0x0A }).map (fun t => (t.cy, t.sf, t.pc)) =
      some (true, true, 0x0101) := by decide
theorem test_cmpA :
    (after { start [0xBF] with a := 0x42, cy := true }).map (fun t => (t.cy, t.zf, t.pc)) =
      some (false, true, 0x0101) := by decide
theorem test_cmpM :
    (after { (start [0xBE]).writeByte 0x2000 0x10 with a := 0x10, h := 0x20, l := 0x00 }).map (fun t => (t.zf, t.pc)) =
      some (true, 0x0101) := by decide
theorem test_adi :
    (after { start [0xC6, 0x01] with a := 0xFF }).map (fun t => (t.a, t.cy, t.zf, t.pc)) =
      some (0x00, true, true, 0x0102) := by decide
theorem test_aci :
    (after { start [0xCE, 0x00] with a := 0x00, cy := true }).map (fun t => (t.a, t.cy, t.pc)) =
      some (0x01, false, 0x0102) := by decide
theorem test_sui :
    (after { start [0xD6, 0x01] with a := 0x00 }).map (fun t => (t.a, t.cy, t.sf, t.pc)) =
      some (0xFF, true, true, 0x0102) := by decide
theorem test_sbi :
    (after { start [0xDE, 0x01] with a := 0x01, cy := true }).map (fun t => (t.a, t.sf, t.pc)) =
      some (0xFF, true, 0x0102) := by decide
theorem test_ani :
    (after { start [0xE6, 0x0F] with a := 0xA5, cy := true }).map (fun t => (t.a, t.cy, t.pc)) =
      some (0x05, false, 0x0102) := by decide
theorem test_xri :
    (after { start [0xEE, 0xFF] with a := 0xA5 }).map (fun t => (t.a, t.pc)) =
      some (0x5A, 0x0102) := by decide
theorem test_ori :
    (after { start [0xF6, 0x80] with a := 0x01 }).map (fun t => (t.a, t.sf, t.pc)) =
      some (0x81, true, 0x0102) := by decide
theorem test_cpi :
    (after { start [0xFE, 0x40] with a := 0x3F }).map (fun t => (t.cy, t.sf, t.pc)) =
      some (true, true, 0x0102) := by decide
theorem test_inrB :
    (after { start [0x04] with b := 0xFF }).map (fun t => (t.b, t.zf, t.pc)) =
      some (0x00, true, 0x0101) := by decide
theorem test_inrA :
    (after { start [0x3C] with a := 0x7F, cy := true }).map (fun t => (t.a, t.sf, t.pc)) =
      some (0x80, true, 0x0101) := by decide
theorem test_dcrB :
    (after { start [0x05] with b := 0x00 }).map (fun t => (t.b, t.sf, t.pc)) =
      some (0xFF, true, 0x0101) := by decide
theorem test_dcrA :
    (after { start [0x3D] with a := 0x01, cy := true }).map (fun t => (t.a, t.zf, t.pc)) =
      some (0x00, true, 0x0101) := by decide
theorem test_inrM :
    (after { (start [0x34]).writeByte 0x2000 0xFF with h := 0x20, l := 0x00 }).map (fun t => (t.zf, t.readByte 0x2000, t.pc)) =
      some (true, 0x00, 0x0101) := by decide
theorem test_dcrM :
    (after { (start [0x35]).writeByte 0x2000 0x00 with h := 0x20, l := 0x00 }).map (fun t => (t.sf, t.readByte 0x2000, t.pc)) =
      some (true, 0xFF, 0x0101) := by decide
theorem test_inxB :
    (after { start [0x03] with b := 0x00, c := 0xFF, zf := true, cy := true }).map (fun t => (t.b, t.c, t.pc)) =
      some (0x01, 0x00, 0x0101) := by decide
theorem test_inxH :
    (after { start [0x23] with h := 0xFF, l := 0xFF }).map (fun t => (t.h, t.l, t.pc)) =
      some (0x00, 0x00, 0x0101) := by decide
theorem test_inxSp :
    (after { start [0x33] with sph := 0x7F, spl := 0xFF }).map (fun t => (t.sp, t.pc)) =
      some (0x8000, 0x0101) := by decide
theorem test_dcxB :
    (after { start [0x0B] with b := 0x01, c := 0x00 }).map (fun t => (t.b, t.c, t.pc)) =
      some (0x00, 0xFF, 0x0101) := by decide
theorem test_dcxH :
    (after { start [0x2B] with h := 0x00, l := 0x00 }).map (fun t => (t.h, t.l, t.pc)) =
      some (0xFF, 0xFF, 0x0101) := by decide
theorem test_dcxSp :
    (after { start [0x3B] with sph := 0x00, spl := 0x00 }).map (fun t => (t.sp, t.pc)) =
      some (0xFFFF, 0x0101) := by decide
theorem test_dadB :
    (after { start [0x09] with h := 0xA1, l := 0x7B, b := 0x33, c := 0x9F, a := 0x77, zf := true, sf := true }).map (fun t => (t.h, t.l, t.pc)) =
      some (0xD5, 0x1A, 0x0101) := by decide
theorem test_dadD :
    (after { start [0x19] with h := 0xFF, l := 0xFF, d := 0x00, e := 0x01, a := 0x55 }).map (fun t => (t.h, t.l, t.cy, t.pc)) =
      some (0x00, 0x00, true, 0x0101) := by decide
theorem test_dadH :
    (after { start [0x29] with h := 0x80, l := 0x00, a := 0x01 }).map (fun t => (t.h, t.cy, t.pc)) =
      some (0x00, true, 0x0101) := by decide
theorem test_dadSp :
    (after { start [0x39] with h := 0x00, l := 0x10, sph := 0x1F, spl := 0xF0, cy := true }).map (fun t => (t.h, t.l, t.cy, t.pc)) =
      some (0x20, 0x00, false, 0x0101) := by decide
theorem test_daa :
    (after { start [0x27] with a := 0x9B }).map (fun t => t.pc) = some 0x0101 := by decide
theorem test_rlc :
    (after { start [0x07] with a := 0xB4 }).map (fun t => (t.a, t.cy, t.pc)) =
      some (0x69, true, 0x0101) := by decide
theorem test_rlc_again :
    (after { start [0x07] with a := 0x40, cy := true }).map (fun t => (t.a, t.cy, t.pc)) =
      some (0x80, false, 0x0101) := by decide
theorem test_rrc :
    (after { start [0x0F] with a := 0xF3 }).map (fun t => (t.a, t.cy, t.pc)) =
      some (0xF9, true, 0x0101) := by decide
theorem test_ral :
    (after { start [0x17] with a := 0xB5 }).map (fun t => (t.a, t.cy, t.pc)) =
      some (0x6A, true, 0x0101) := by decide
theorem test_rar :
    (after { start [0x1F] with a := 0x6A, cy := true }).map (fun t => (t.a, t.cy, t.pc)) =
      some (0xB5, false, 0x0101) := by decide
theorem test_cma :
    (after { start [0x2F] with a := 0x3C, cy := true, zf := true }).map (fun t => (t.a, t.pc)) =
      some (0xC3, 0x0101) := by decide
theorem test_stc :
    (after (start [0x37])).map (fun t => (t.cy, t.pc)) = some (true, 0x0101) := by decide
theorem test_cmc :
    (after (start [0x3F])).map (fun t => (t.cy, t.pc)) = some (true, 0x0101) := by decide
theorem test_jmp :
    (after (start [0xC3, 0x34, 0x12])).map (fun t => t.pc) = some 0x1234 := by decide
theorem test_jnz :
    (after (start [0xC2, 0x34, 0x12])).map (fun t => t.pc) = some 0x1234 := by decide
theorem test_jnz_again :
    (after { start [0xC2, 0x34, 0x12] with zf := true }).map (fun t => t.pc) = some 0x0103 := by decide
theorem test_jz :
    (after { start [0xCA, 0x34, 0x12] with zf := true }).map (fun t => t.pc) = some 0x1234 := by decide
theorem test_jnc :
    (after { start [0xD2, 0x34, 0x12] with cy := true }).map (fun t => t.pc) = some 0x0103 := by decide
theorem test_jc :
    (after { start [0xDA, 0x34, 0x12] with cy := true }).map (fun t => t.pc) = some 0x1234 := by decide
theorem test_jp :
    (after (start [0xF2, 0x34, 0x12])).map (fun t => t.pc) = some 0x1234 := by decide
theorem test_jm :
    (after (start [0xFA, 0x34, 0x12])).map (fun t => t.pc) = some 0x0103 := by decide
theorem test_jm_again :
    (after { start [0xFA, 0x34, 0x12] with sf := true }).map (fun t => t.pc) = some 0x1234 := by decide
theorem test_call :
    (after { start [0xCD, 0x34, 0x12] with sph := 0x20, spl := 0x00 }).map (fun t => (t.sp, t.readByte 0x1FFF, t.readByte 0x1FFE, t.pc)) =
      some (0x1FFE, 0x01, 0x03, 0x1234) := by decide
theorem test_call_again :
    (after { start [0xCD, 0x34, 0x12] with sph := 0x00, spl := 0x01 }).map (fun t => (t.sp, t.readByte 0x0000, t.readByte 0xFFFF, t.pc)) =
      some (0xFFFF, 0x01, 0x03, 0x1234) := by decide
theorem test_cnz :
    (after { start [0xC4, 0x34, 0x12] with sph := 0x20, spl := 0x00 }).map (fun t => (t.sp, t.readByte 0x1FFF, t.readByte 0x1FFE, t.pc)) =
      some (0x1FFE, 0x01, 0x03, 0x1234) := by decide
theorem test_cnz_again :
    (after { start [0xC4, 0x34, 0x12] with sph := 0x20, spl := 0x00, zf := true }).map (fun t => t.pc) =
      some 0x0103 := by decide
theorem test_cc :
    (after { start [0xDC, 0x34, 0x12] with sph := 0x20, spl := 0x00, cy := true }).map (fun t => (t.sp, t.readByte 0x1FFF, t.readByte 0x1FFE, t.pc)) =
      some (0x1FFE, 0x01, 0x03, 0x1234) := by decide
theorem test_cm :
    (after { start [0xFC, 0x34, 0x12] with sph := 0x20, spl := 0x00 }).map (fun t => t.pc) =
      some 0x0103 := by decide
theorem test_ret :
    (after { (start [0xC9]).writeByte 0x2000 0x34 |>.writeByte 0x2001 0x12 with sph := 0x20, spl := 0x00 }).map (fun t => (t.sp, t.pc)) =
      some (0x2002, 0x1234) := by decide
theorem test_ret_again :
    (after { (start [0xC9]).writeByte 0xFFFF 0x34 |>.writeByte 0x0000 0x12 with sph := 0xFF, spl := 0xFF }).map (fun t => (t.sp, t.pc)) =
      some (0x0001, 0x1234) := by decide
theorem test_rnz :
    (after { (start [0xC0]).writeByte 0x2000 0x34 |>.writeByte 0x2001 0x12 with sph := 0x20, spl := 0x00 }).map (fun t => (t.sp, t.pc)) =
      some (0x2002, 0x1234) := by decide
theorem test_rnz_again :
    (after { (start [0xC0]).writeByte 0x2000 0x34 |>.writeByte 0x2001 0x12 with sph := 0x20, spl := 0x00, zf := true }).map (fun t => t.pc) =
      some 0x0101 := by decide
theorem test_rz :
    (after { (start [0xC8]).writeByte 0x2000 0x34 |>.writeByte 0x2001 0x12 with sph := 0x20, spl := 0x00, zf := true }).map (fun t => (t.sp, t.pc)) =
      some (0x2002, 0x1234) := by decide
theorem test_rc :
    (after { (start [0xD8]).writeByte 0x2000 0x34 |>.writeByte 0x2001 0x12 with sph := 0x20, spl := 0x00 }).map (fun t => t.pc) =
      some 0x0101 := by decide
theorem test_rm :
    (after { (start [0xF8]).writeByte 0x2000 0x34 |>.writeByte 0x2001 0x12 with sph := 0x20, spl := 0x00, sf := true }).map (fun t => (t.sp, t.pc)) =
      some (0x2002, 0x1234) := by decide
theorem test_rst0 :
    (after { start [0xC7] with sph := 0x20, spl := 0x00 }).map (fun t => (t.sp, t.readByte 0x1FFF, t.readByte 0x1FFE, t.pc)) =
      some (0x1FFE, 0x01, 0x01, 0x0000) := by decide
theorem test_rst5 :
    (after { start [0xEF] with sph := 0x20, spl := 0x00 }).map (fun t => (t.sp, t.readByte 0x1FFF, t.readByte 0x1FFE, t.pc)) =
      some (0x1FFE, 0x01, 0x01, 0x0028) := by decide
theorem test_rst7 :
    (after { start [0xFF] with sph := 0x20, spl := 0x00 }).map (fun t => (t.sp, t.readByte 0x1FFF, t.readByte 0x1FFE, t.pc)) =
      some (0x1FFE, 0x01, 0x01, 0x0038) := by decide
theorem test_pchl :
    (after { start [0xE9] with h := 0xBE, l := 0xEF }).map (fun t => t.pc) = some 0xBEEF := by decide
theorem test_pushB :
    (after { start [0xC5] with sph := 0x20, spl := 0x00, b := 0x12, c := 0x34 }).map (fun t => (t.sp, t.readByte 0x1FFF, t.readByte 0x1FFE, t.pc)) =
      some (0x1FFE, 0x12, 0x34, 0x0101) := by decide
theorem test_pushH :
    (after { start [0xE5] with sph := 0x00, spl := 0x00, h := 0xCA, l := 0xFE }).map (fun t => (t.sp, t.readByte 0xFFFF, t.readByte 0xFFFE, t.pc)) =
      some (0xFFFE, 0xCA, 0xFE, 0x0101) := by decide
theorem test_pushPsw :
    (after { start [0xF5] with sph := 0x20, spl := 0x00, a := 0x9A, sf := true, cy := true }).map (fun t => (t.sp, t.readByte 0x1FFF, t.readByte 0x1FFE, t.pc)) =
      some (0x1FFE, 0x9A, 0x81, 0x0101) := by decide
theorem test_pushPsw_again :
    (after { start [0xF5] with sph := 0x20, spl := 0x00, a := 0x00, zf := true }).map (fun t => (t.sp, t.readByte 0x1FFF, t.readByte 0x1FFE, t.pc)) =
      some (0x1FFE, 0x00, 0x40, 0x0101) := by decide
theorem test_popB :
    (after { (start [0xC1]).writeByte 0x1FFE 0x34 |>.writeByte 0x1FFF 0x12 with sph := 0x1F, spl := 0xFE }).map (fun t => (t.b, t.c, t.sp, t.pc)) =
      some (0x12, 0x34, 0x2000, 0x0101) := by decide
theorem test_popD :
    (after { (start [0xD1]).writeByte 0x1FFE 0x34 |>.writeByte 0x1FFF 0x12 with sph := 0x1F, spl := 0xFE }).map (fun t => (t.d, t.e, t.sp, t.pc)) =
      some (0x12, 0x34, 0x2000, 0x0101) := by decide
theorem test_popPsw :
    (after { (start [0xF1]).writeByte 0x1FFE 0xFF |>.writeByte 0x1FFF 0x12 with sph := 0x1F, spl := 0xFE }).map (fun t => (t.a, t.sp, t.cy, t.zf, t.sf)) =
      some (0x12, 0x2000, true, true, true) := by decide
theorem test_popPsw_again :
    (after { (start [0xF1]).writeByte 0x1FFE 0x3E |>.writeByte 0x1FFF 0x12 with sph := 0x1F, spl := 0xFE, sf := true, zf := true, cy := true }).map (fun t => (t.a, t.sp, t.cy, t.zf, t.sf)) =
      some (0x12, 0x2000, false, false, false) := by decide
theorem test_xthl :
    (after { (start [0xE3]).writeByte 0x2000 0x34 |>.writeByte 0x2001 0x12 with sph := 0x20, spl := 0x00, h := 0xAB, l := 0xCD }).map (fun t => (t.h, t.l, t.readByte 0x2000, t.readByte 0x2001, t.pc)) =
      some (0x12, 0x34, 0xCD, 0xAB, 0x0101) := by decide
theorem test_sphl :
    (after { start [0xF9] with h := 0x80, l := 0x00 }).map (fun t => (t.sp, t.pc)) =
      some (0x8000, 0x0101) := by decide
theorem test_inPort :
    (after { start [0xDB, 0x10] with a := 0x55 }).map (fun t => t.pc) = some 0x0102 := by decide
theorem test_outPort :
    (after { start [0xD3, 0x10] with a := 0x55 }).map (fun t => t.pc) = some 0x0102 := by decide
theorem test_ei :
    (after (start [0xFB])).map (fun t => (t.inte, t.pc)) = some (true, 0x0101) := by decide
theorem test_di :
    (after { start [0xF3] with inte := true }).map (fun t => (t.inte, t.pc)) =
      some (false, 0x0101) := by decide
theorem test_nop :
    (after (start [0x00])).map (fun t => t.pc) = some 0x0101 := by decide
theorem test_nop08 :
    (after (start [0x08])).map (fun t => t.pc) = some 0x0101 := by decide
theorem test_nopCB :
    (after (start [0xCB, 0x34, 0x12])).map (fun t => t.pc) = some 0x0101 := by decide
theorem test_nopD9 :
    (after { (start [0xD9]).writeByte 0x2000 0x34 |>.writeByte 0x2001 0x12 with sph := 0x20, spl := 0x00 }).map (fun t => t.pc) =
      some 0x0101 := by decide
theorem test_hlt :
    (after (start [0x76])).map (fun t => t.pc) = some 0x0100 := by decide

/-! ### Single micro-steps (spec/96_micro_vectors_and_traces.md part 3) -/

theorem test_micro_incl_carries :
    (microStepWord 0x00000899 { start [] with pch := 0x12, pcl := 0xFF }).pc = 0x1200
      ∧ (microStepWord 0x00000899 { start [] with pch := 0x12, pcl := 0xFF }).chain = true := by decide
theorem test_micro_inch_takes_chain : (microStepWord 0x00000C88 { start [] with pch := 0x12, chain := true }).pc = 0x1300 := by
  decide
theorem test_micro_load_through_own_pair :
    (microStepWord 0x00000186 ({ start [] with pch := 0x01, pcl := 0x02 }.writeByte 0x0102 0x80)).pc = 0x8002 := by decide
theorem test_micro_load_flags :
    let t := microStepWord 0x000002E6 ({ start [] with sph := 0x1F, spl := 0xFE, cy := true }.writeByte 0x1FFE 0x3E)
    (t.sf, t.zf, t.cy) = (false, false, false) := by decide
theorem test_micro_compare_keeps_a :
    let t := microStepWord 0x0000FC73 { start [] with a := 0x02, e := 0x05 }
    (t.a, t.cy, t.sf, t.chain) = (0x02, true, true, true) := by decide
theorem test_micro_addc : (microStepWord 0x00006051 { start [] with a := 0x7B, c := 0x9F }).l = 0x1A := by decide
theorem test_micro_rstvec : (microStepWord 0x0007009F { start [] with ir := 0xEF, pcl := 0x35 }).pc = 0x0128 := by decide

/-! ### Clocks -/

theorem test_clocks_push_psw :
    (afterClocks { start [0xF5] with sph := 0x20, a := 0x9A, sf := true, cy := true }).map
      (fun t => (t.readByte 0x1FFF, t.readByte 0x1FFE)) = some (0x9A, 0x81) := by decide
theorem test_clocks_jump : (afterClocks (start [0xC3, 0x34, 0x12])).map (fun t => (t.pc, t.mal)) = some (0x1234, 0x34) := by
  decide
theorem test_fault_padding :
    (match step { start [] with ir := 0x00, step := 20 } with | .fault r => r == .paddingDispatched | _ => false) = true := by
  decide
theorem test_fault_ran_off_bank :
    (match clockWith (fun _ => 0) { start [] with step := 31 } with | .fault r => r == .ranOffBank | _ => false) = true := by
  decide
theorem test_finish_instruction :
    (after { start [] with ir := 0x41, step := 3, c := 0x55 }).map (fun t => (t.b, t.step)) = some (0x55, 0) := by decide
theorem test_hexWord : hexWord true 0x000001F6 = "000001F6" ∧ hexWord false 0x8007009F = "8007009f" := by decide
theorem test_halted : (start [0x76]).halted = true := by decide
theorem test_assertReset : { start [] with step := 3, inte := true, a := 0x12 }.assertReset.a = 0x12 := by decide
theorem test_memory_wf : ((start [0x3E, 0x00]).writeByte 0x0100 0x00).mem = [] := by decide

/-! ### Witnesses: concrete states that meet the hypotheses of the statements -/

theorem witness_UnconditionalBanksEqual :
    (0xFF : Byte) &&& 0xC7 ≠ 0xC0 ∧ (0xFF : Byte) &&& 0xC7 ≠ 0xC2 ∧ (0xFF : Byte) &&& 0xC7 ≠ 0xC4 := by decide
theorem witness_MicroStepLatch : Sel.ir ≠ .m ∧ Sel.ir ≠ .flags := by decide
theorem witness_InertWords :
    let f : ControlWord := { src := .ir, dst := .ir, csel := .rstv }
    let s := { start [] with ir := 0x38 }
    f.src = f.dst ∧ f.src ≠ .m ∧ f.alu = .byp
      ∧ (f.csel ≠ .rstv ∨ s.source f.src (s.address f.adr) &&& 0x38 = s.source f.src (s.address f.adr))
      ∧ f.ccap = false ∧ f.zscap = false ∧ f.cset = false ∧ f.ccpl = false ∧ f.swap = false ∧ f.ei = false ∧ f.di = false := by
  decide
theorem witness_SignalWords : MicroOp.sigXchg.generated = true ∧ MicroOp.sigXchg.swap = true := by decide
theorem witness_ConditionSelectInvariant_words :
    (2 : BitVec 5) ≠ 0 ∧ ∀ j : BitVec 5, j.toNat < (2 : BitVec 5).toNat →
      (controlStore (romAddress 0xC0 false j)).getLsbD 31 = false := by decide
theorem witness_ConditionSelectInvariant_bank :
    ({ start [] with ir := 0xC0, step := 2 } : State).step ≠ 0
      ∧ ({ start [] with ir := 0xC0, step := 2 } : State).inPadding controlStore = false := by decide
theorem witness_BankConstant :
    let s : State := { start [] with ir := 0xC0, step := 1 }
    s.step ≠ 0 ∧ isConditional s.ir = true ∧ ∃ t, clock s = .next t ∧ t.step ≠ 0 :=
  ⟨by decide, by decide, _, rfl, by decide⟩
theorem witness_StepCounts : (start [0xCD, 0x34, 0x12]).step = 0 := by decide
theorem witness_DocumentedAccesses : (start [0xE3]).step = 0 := by decide
theorem witness_PaddingReported : (start [0x76]).step = 0 := by decide
/-- STEP 3 is the first padding step of the NOP row, whose word at step 2 has LAST. -/
theorem witness_PaddingReported_first :
    (∃ k : BitVec 5, k.toNat < (3 : BitVec 5).toNat ∧ (controlStore (romAddress 0x00 false k)).getLsbD 31 = true)
      ∧ clock { start [] with ir := 0x00, step := 3 } = .fault .paddingDispatched := ⟨⟨2, by decide⟩, rfl⟩
theorem witness_PaddingReported_last_word : ∃ t, clock { start [] with ir := 0x00, step := 2 } = .next t := ⟨_, rfl⟩
/-- At STEP 31 both reports of R199 apply; the model tests padding first (notes/assumptions/19.md). -/
theorem witness_PaddingReported_step31 :
    (∃ k : BitVec 5, k.toNat < (31 : BitVec 5).toNat ∧ (controlStore (romAddress 0x00 false k)).getLsbD 31 = true)
      ∧ (controlStore (romAddress 0x00 false 31)).getLsbD 31 = false
      ∧ clock { start [] with ir := 0x00, step := 31 } = .fault .paddingDispatched := ⟨⟨2, by decide⟩, by decide, rfl⟩
theorem witness_StepRunsDecoded :
    (start [0xC3, 0x34, 0x12]).step = 0 ∧ decode (start [0xC3, 0x34, 0x12]).fetchBytes = .ok (.jmp 0x1234, []) := by decide
theorem witness_PlacedWordRuns : decodeTableWord 8 0x76 = some .hlt := by decide
theorem witness_BoundaryInvariant : (start [0x3E, 0x12]).Inv := by
  unfold State.Inv
  decide
theorem witness_InteWriters : ∃ t, exec .ei (start []) = .next t := ⟨_, rfl⟩
theorem witness_FlagWriters :
    (∃ t, exec (.lda 0x1234) (start []) = .next t) ∧ writesCarry (shapeOf (Instr.lda 0x1234).opcode) = false
      ∧ writesZS (shapeOf (Instr.lda 0x1234).opcode) = false := ⟨⟨_, rfl⟩, by decide, by decide⟩
theorem witness_InstructionFrame : ∃ t, exec .pushPsw (start []) = .next t := ⟨_, rfl⟩
theorem witness_ScratchUnobservable :
    (start [0x80]).step = 0 ∧ (start [0x80]).visible = { start [0x80] with mah := 0x12, ir := 0x34, chain := true }.visible := by
  decide
theorem witness_HaltForEver : (start [0x76]).halted = true := by decide
theorem witness_NoVisibleEffect :
    (Instr.nop08 = .nop ∨ Instr.nop08 = .daa ∨ ∃ u, Instr.nop08 = .ofUndoc u)
      ∧ (Instr.outPort 0x10 = .inPort 0x10 ∨ Instr.outPort 0x10 = .outPort 0x10) :=
  ⟨.inr (.inr ⟨.op08, rfl⟩), .inr rfl⟩

end Sys2Proof.Tests
end

section
/-! PROOFS. The control-word codec (spec/30_encoding.md R60, R61). Encoder and decoder are both tied to the layout of R60,
`ControlWord.LaidOut`: each produces a pair that is laid out, and either side of such a pair determines the other, so that
the two maps undo each other. -/

namespace Sys2Proof

/-! ### Codes -/

@[simp] theorem Sel.ofCode_code (r : Sel) : Sel.ofCode r.code = r := by cases r <;> rfl
@[simp] theorem AdrSrc.ofCode_code (p : AdrSrc) : AdrSrc.ofCode p.code = p := by cases p <;> rfl
@[simp] theorem AluOp.ofCode_code (op : AluOp) : AluOp.ofCode op.code = op := by cases op <;> rfl
@[simp] theorem CSel.ofCode_code (sel : CSel) : CSel.ofCode sel.code = sel := by cases sel <;> rfl

@[simp] theorem Sel.code_ofCode : ∀ v : BitVec 4, (Sel.ofCode v).code = v := by decide
@[simp] theorem AdrSrc.code_ofCode : ∀ v : BitVec 2, (AdrSrc.ofCode v).code = v := by decide
@[simp] theorem AluOp.code_ofCode : ∀ v : BitVec 4, (AluOp.ofCode v).code = v := by decide
@[simp] theorem CSel.code_ofCode : ∀ v : BitVec 3, (CSel.ofCode v).code = v := by decide

/-! ### Slices of a word -/

theorem extractLsb'_one (w : Word32) (pos : Nat) : w.extractLsb' pos 1 = BitVec.ofBool (w.getLsbD pos) := by
  ext i hi
  obtain rfl : i = 0 := by omega
  simp

/-- A field is read back by the slice at its own position. -/
theorem extractLsb'_fieldAt_same {n pos : Nat} (v : BitVec n) (h : pos + n ≤ 32) :
    (fieldAt v pos).extractLsb' pos n = v := by
  ext i hi
  have hin : pos + i < 32 := by omega
  simp [fieldAt, hin, BitVec.getLsbD_eq_getElem hi]

/-- A field does not show in a slice that lies below or above it. -/
theorem extractLsb'_fieldAt_disjoint {n pos start len : Nat} (v : BitVec n)
    (h : start + len ≤ pos ∨ pos + n ≤ start) : (fieldAt v pos).extractLsb' start len = 0#len := by
  ext i hi
  obtain hbelow | habove := h
  · have hlt : start + i < pos := by omega
    simp [fieldAt, hlt]
  · have hge : n ≤ start + i - pos := by omega
    simp [fieldAt, BitVec.getLsbD_of_ge v _ hge]

/-- A word is its fourteen slices side by side (R60). -/
theorem append_slices (w : Word32) :
    w.extractLsb' 31 1 ++ w.extractLsb' 24 7 ++ w.extractLsb' 23 1 ++ w.extractLsb' 22 1 ++ w.extractLsb' 21 1
      ++ w.extractLsb' 20 1 ++ w.extractLsb' 19 1 ++ w.extractLsb' 16 3 ++ w.extractLsb' 15 1 ++ w.extractLsb' 14 1
      ++ w.extractLsb' 10 4 ++ w.extractLsb' 8 2 ++ w.extractLsb' 4 4 ++ w.extractLsb' 0 4 = w := by
  iterate 13 rw [BitVec.extractLsb'_append_extractLsb'_eq_extractLsb' (by rfl)]
  exact BitVec.extractLsb'_eq_self

/-! ### The layout -/

/-- R60: the slices of the word `w` are the codes of the fields of `f`. -/
structure ControlWord.LaidOut (f : ControlWord) (w : Word32) : Prop where
  src : w.extractLsb' 0 4 = f.src.code
  dst : w.extractLsb' 4 4 = f.dst.code
  adr : w.extractLsb' 8 2 = f.adr.code
  alu : w.extractLsb' 10 4 = f.alu.code
  ccap : w.extractLsb' 14 1 = BitVec.ofBool f.ccap
  zscap : w.extractLsb' 15 1 = BitVec.ofBool f.zscap
  csel : w.extractLsb' 16 3 = f.csel.code
  cset : w.extractLsb' 19 1 = BitVec.ofBool f.cset
  ccpl : w.extractLsb' 20 1 = BitVec.ofBool f.ccpl
  swap : w.extractLsb' 21 1 = BitVec.ofBool f.swap
  ei : w.extractLsb' 22 1 = BitVec.ofBool f.ei
  di : w.extractLsb' 23 1 = BitVec.ofBool f.di
  rsv : w.extractLsb' 24 7 = f.rsv
  last : w.extractLsb' 31 1 = BitVec.ofBool f.last

/-- The encoder lays a field tuple out: in each slice every field but one vanishes. -/
theorem ControlWord.encode_laidOut (f : ControlWord) : f.LaidOut f.encode := by
  constructor <;>
    simp [ControlWord.encode, BitVec.extractLsb'_or, extractLsb'_fieldAt_same, extractLsb'_fieldAt_disjoint]

/-- The decoder reads the slices of the layout. -/
theorem ControlWord.decode_laidOut (w : Word32) : (ControlWord.decode w).LaidOut w := by
  constructor <;> simp [ControlWord.decode, extractLsb'_one]

/-- The slices of a word determine the field tuple. -/
theorem ControlWord.LaidOut.decode_eq {f : ControlWord} {w : Word32} (h : f.LaidOut w) : ControlWord.decode w = f := by
  obtain ⟨src, dst, adr, alu, ccap, zscap, csel, cset, ccpl, swap, ei, di, rsv, last⟩ := h
  simp only [extractLsb'_one, BitVec.ofBool_eq_iff_eq] at *
  simp only [ControlWord.decode, Sel.ofCode_code, AdrSrc.ofCode_code, AluOp.ofCode_code, CSel.ofCode_code, *]

/-- A field tuple determines the word: the fields side by side. -/
theorem ControlWord.LaidOut.eq_append {f : ControlWord} {w : Word32} (h : f.LaidOut w) :
    w = BitVec.ofBool f.last ++ f.rsv ++ BitVec.ofBool f.di ++ BitVec.ofBool f.ei ++ BitVec.ofBool f.swap
      ++ BitVec.ofBool f.ccpl ++ BitVec.ofBool f.cset ++ f.csel.code ++ BitVec.ofBool f.zscap ++ BitVec.ofBool f.ccap
      ++ f.alu.code ++ f.adr.code ++ f.dst.code ++ f.src.code := by
  rw [← h.src, ← h.dst, ← h.adr, ← h.alu, ← h.ccap, ← h.zscap, ← h.csel, ← h.cset, ← h.ccpl, ← h.swap, ← h.ei, ← h.di,
    ← h.rsv, ← h.last, append_slices]

/-! ### The codec -/

@[simp] theorem ControlWord.decode_encode (f : ControlWord) : ControlWord.decode f.encode = f :=
  f.encode_laidOut.decode_eq

@[simp] theorem ControlWord.encode_decode (w : Word32) : (ControlWord.decode w).encode = w :=
  (ControlWord.encode_laidOut _).eq_append.trans (ControlWord.decode_laidOut w).eq_append.symm

/-- Settles O5. The formula and the slices are the codec's definitions; the inverses go through the layout of R60. -/
theorem controlWordCodec : Obligations.ControlWordCodec := by
  refine ⟨fun f => ?formula, fun w => ?slices, ControlWord.decode_encode, ControlWord.encode_decode, ?fetchWord⟩
  case formula => simp [ControlWord.encode, fieldAt]
  case slices => simp [ControlWord.decode]
  case fetchWord => decide

end Sys2Proof
end

section
/-! PROOFS. The address of a control word (spec/30_encoding.md R70). -/

namespace Sys2Proof.Machine

variable (op : Byte) (bank : Bool) (k : BitVec 5)

theorem romAddress_toNat : (romAddress op bank k).toNat = flatIndex op bank k := by
  have hbank : bank.toNat < 2 ^ 1 := bank.toNat_lt
  calc (romAddress op bank k).toNat
    _ = (op.toNat <<< 1 ||| bank.toNat) <<< 5 ||| k.toNat := by
      simp only [romAddress, BitVec.toNat_append, BitVec.toNat_ofBool]
    _ = (op.toNat <<< 1 + bank.toNat) <<< 5 + k.toNat := by
      rw [Nat.shiftLeft_add_eq_or_of_lt k.isLt, Nat.shiftLeft_add_eq_or_of_lt hbank]
    _ = flatIndex op bank k := by
      simp only [flatIndex, Nat.shiftLeft_eq]
      omega

@[simp] theorem romAddress_opcode : (romAddress op bank k).extractLsb' 6 8 = op := by
  rw [romAddress, BitVec.extractLsb'_append_eq_of_le (by decide), BitVec.extractLsb'_append_eq_left]

theorem romAddress_bank : (romAddress op bank k).getLsbD 5 = bank := by
  simp only [romAddress, BitVec.getLsbD_append, BitVec.getLsbD_ofBool]
  simp

@[simp] theorem romAddress_step : (romAddress op bank k).extractLsb' 0 5 = k :=
  BitVec.extractLsb'_append_eq_right

@[simp] theorem controlStore_romAddress : controlStore (romAddress op bank k) = romWord op bank k := by
  simp only [controlStore, romAddress_opcode, romAddress_bank, romAddress_step]

end Sys2Proof.Machine

namespace Sys2Proof

open Machine

/-- Settles O21: the address is a concatenation, and the store reads it back slice by slice. -/
theorem flatIndexing : Obligations.FlatIndexing := fun op bank k =>
  ⟨romAddress_toNat op bank k, romAddress_opcode op bank k, romAddress_bank op bank k, romAddress_step op bank k,
    controlStore_romAddress op bank k⟩

end Sys2Proof
end

section
/-! PROOFS. The reserved bits (spec/30_encoding.md R67): the datapath reads every field but RSV, and no micro-program sets
it. -/

namespace Sys2Proof.Machine

open MicroOp

/-! ### The datapath -/

theorem microStep_withRsv (f : ControlWord) (r : BitVec 7) (s : State) : microStep { f with rsv := r } s = microStep f s := rfl

/-- The word with `r` in its reserved bits. -/
def withRsv (w : Word32) (r : BitVec 7) : Word32 := w &&& 0x80FFFFFF ||| fieldAt r 24

theorem extractLsb'_withRsv_reserved (w : Word32) (r : BitVec 7) : (withRsv w r).extractLsb' 24 7 = r := by
  have hmask : (0x80FFFFFF : Word32).extractLsb' 24 7 = 0#7 := by decide
  rw [withRsv, BitVec.extractLsb'_or, BitVec.extractLsb'_and, hmask, extractLsb'_fieldAt_same r (by decide),
    BitVec.and_zero, BitVec.zero_or]

/-- A slice that holds none of bits 30:24 is kept. -/
theorem extractLsb'_withRsv_of_unreserved {start len : Nat} (w : Word32) (r : BitVec 7)
    (h : start + len ≤ 24 ∨ (31 ≤ start ∧ start + len ≤ 32)) :
    (withRsv w r).extractLsb' start len = w.extractLsb' start len := by
  have hmask : ∀ j < 32, j < 24 ∨ 31 ≤ j → (0x80FFFFFF : Word32).getLsbD j = true := by decide
  have hkeep : (w &&& 0x80FFFFFF).extractLsb' start len = w.extractLsb' start len := by
    ext i hi
    simp only [BitVec.getElem_extractLsb', BitVec.getLsbD_and, hmask (start + i) (by omega) (by omega), Bool.and_true]
  rw [withRsv, BitVec.extractLsb'_or, hkeep, extractLsb'_fieldAt_disjoint r (by omega), BitVec.or_zero]

/-- The word with `r` in its reserved bits is laid out by the same fields but for RSV. -/
theorem laidOut_withRsv (w : Word32) (r : BitVec 7) : { ControlWord.decode w with rsv := r }.LaidOut (withRsv w r) := by
  obtain ⟨src, dst, adr, alu, ccap, zscap, csel, cset, ccpl, swap, ei, di, -, last⟩ := ControlWord.decode_laidOut w
  constructor
  case rsv => exact extractLsb'_withRsv_reserved w r
  all_goals
    rw [extractLsb'_withRsv_of_unreserved w r (by decide)]
    assumption

theorem microStepWord_withRsv (w : Word32) (r : BitVec 7) (s : State) :
    microStepWord (withRsv w r) s = microStepWord w s := by
  simp only [microStepWord, (laidOut_withRsv w r).decode_eq, microStep_withRsv]

/-! ### The table builder -/

/-- Every word of a sequence has RSV 0. -/
def RsvClear (seq : List ControlWord) : Prop := ∀ u ∈ seq, u.rsv = 0

@[simp] theorem rsvClear_nil : RsvClear [] := by simp [RsvClear]

@[simp] theorem rsvClear_cons (u : ControlWord) (seq : List ControlWord) :
    RsvClear (u :: seq) ↔ u.rsv = 0 ∧ RsvClear seq := by
  simp [RsvClear]

@[simp] theorem rsvClear_append (seq seq' : List ControlWord) : RsvClear (seq ++ seq') ↔ RsvClear seq ∧ RsvClear seq' :=
  List.forall_mem_append

@[simp] theorem rsvClear_adv : RsvClear adv := by simp [adv, incl, inch]
@[simp] theorem rsvClear_spInc : RsvClear spInc := by simp [spInc, incl, inch]
@[simp] theorem rsvClear_spDec : RsvClear spDec := by simp [spDec, decl, dech]
@[simp] theorem rsvClear_maInc : RsvClear maInc := by simp [maInc, incl, inch]
@[simp] theorem rsvClear_prologue : RsvClear prologue := by simp [prologue, fetch]
@[simp] theorem rsvClear_fetchMA : RsvClear fetchMA := by simp [fetchMA, ld]
@[simp] theorem rsvClear_pushSteps (hi lo : Sel) : RsvClear (pushSteps hi lo) := by simp [pushSteps, st]
@[simp] theorem rsvClear_popSteps (hi lo : Sel) : RsvClear (popSteps hi lo) := by simp [popSteps, ld]
@[simp] theorem rsvClear_jumpSteps : RsvClear jumpSteps := by simp [jumpSteps, ld, mov]
@[simp] theorem rsvClear_callSteps : RsvClear callSteps := by simp [callSteps, mov]
@[simp] theorem rsvClear_returnSteps : RsvClear returnSteps := by simp [returnSteps, fetch]

theorem rsvClear_microProgram (sh : Shape) (bank : Bool) : RsvClear (microProgram sh bank) := by
  cases sh
  case jcc | ccc | rcc => cases bank <;> simp [microProgram]
  all_goals
    simp [microProgram, fetch, mov, ld, st, incl, inch, decl, dech, inr, dcr, inrM, dcrM, acc, accM, addc, adcc, xornf, clr,
      rotRlc1, rotRlc2, rotRrc, rotRal, rotRar, idle, sigStc, sigCmc, sigXchg, sigEi, sigDi, rstvec]

theorem rsvClear_markLast {seq : List ControlWord} (h : RsvClear seq) : RsvClear (markLast seq) := by
  induction seq using markLast.induct with
  | case1 => exact h
  | case2 u => simpa [markLast, withLast] using h
  | case3 u v rest ih =>
    obtain ⟨hu, hrest⟩ := (rsvClear_cons _ _).1 h
    exact (rsvClear_cons _ _).2 ⟨hu, ih hrest⟩

theorem rsvClear_markSelect (sel : CSel) {seq : List ControlWord} (h : RsvClear seq) : RsvClear (markSelect sel seq) := by
  unfold markSelect
  split
  · exact h
  · exact rsvClear_nil
  · simpa [RsvClear, withSelect] using h

theorem rsvClear_bankProgram (op : Byte) (bank : Bool) : RsvClear (bankProgram op bank) :=
  rsvClear_markLast (rsvClear_markSelect _ (rsvClear_microProgram _ _))

/-- Every word of the control store has bits 30:24 0: an encoded step by its RSV, a word beyond the last step as zero. -/
theorem romWord_rsv (op : Byte) (bank : Bool) (k : BitVec 5) : (romWord op bank k).extractLsb' 24 7 = 0 := by
  unfold romWord
  cases hstep : (bankProgram op bank)[k.toNat]? with
  | none => rfl
  | some u =>
    calc u.encode.extractLsb' 24 7
      _ = u.rsv := u.encode_laidOut.rsv
      _ = 0 := rsvClear_bankProgram op bank u (List.mem_of_getElem? hstep)

end Sys2Proof.Machine

namespace Sys2Proof

open Machine

/-- Settles O6: no commit reads RSV, in a word it is a slice apart from all others, and no micro-program sets it. -/
theorem reservedBitsIgnored : Obligations.ReservedBitsIgnored :=
  ⟨microStep_withRsv, microStepWord_withRsv, fun _ => romWord_rsv _ _ _⟩

end Sys2Proof
end

section
/-! PROOFS. What one control word does (spec/41_micro_step.md R120 to R137): each commit as one update of the record, the
latch field by field, and the state after a micro-step as a whole, from which the statements about single words follow. -/

namespace Sys2Proof.Machine

variable (s : State)

/-! ### The bus and the ALU -/

/-- The gating of R124 does not show where another code is selected or the mask keeps the byte. -/
theorem State.busValue_eq_source {f : ControlWord}
    (h : f.csel ≠ .rstv ∨ s.source f.src (s.address f.adr) &&& 0x38 = s.source f.src (s.address f.adr)) :
    s.busValue f = s.source f.src (s.address f.adr) := by
  unfold State.busValue
  split
  case isTrue hrstv => exact h.resolve_left (not_not_intro hrstv)
  case isFalse => rfl

theorem State.aluOutput_of_byp {f : ControlWord} (h : f.alu = .byp) : s.aluOutput f = (s.busValue f, false) := by
  rw [State.aluOutput, h, alu]

/-- The five operations without a carry-out (R101, R102, R113 to R115). -/
theorem alu_carry_eq_false {op : AluOp} (h : op = .byp ∨ op = .zero ∨ op = .and ∨ op = .xor ∨ op = .or)
    (a x : Byte) (cy ch : Bool) : (alu op a x cy ch).2 = false := by
  obtain rfl | rfl | rfl | rfl | rfl := h <;> rfl

/-! ### The destination latch -/

section latch

variable (sel : Sel) (adr : Addr) (v : Byte)

@[simp] theorem State.latch_inte : (s.latch sel adr v).inte = s.inte := by cases sel <;> rfl
@[simp] theorem State.latch_step : (s.latch sel adr v).step = s.step := by cases sel <;> rfl

/-- Of the sixteen destinations only FLAGS reaches the three flags (R17). -/
theorem State.latch_cy : (s.latch sel adr v).cy = if sel = .flags then v.getLsbD 0 else s.cy := by cases sel <;> rfl
theorem State.latch_zf : (s.latch sel adr v).zf = if sel = .flags then v.getLsbD 6 else s.zf := by cases sel <;> rfl
theorem State.latch_sf : (s.latch sel adr v).sf = if sel = .flags then v.getLsbD 7 else s.sf := by cases sel <;> rfl

end latch

@[simp] theorem State.flagByte_sign : s.flagByte.getLsbD 7 = s.sf := by
  simp only [State.flagByte, BitVec.getLsbD_append]
  simp
@[simp] theorem State.flagByte_zero : s.flagByte.getLsbD 6 = s.zf := by
  simp only [State.flagByte, BitVec.getLsbD_append]
  simp
@[simp] theorem State.flagByte_carry : s.flagByte.getLsbD 0 = s.cy := by
  simp only [State.flagByte, BitVec.getLsbD_append]
  simp

@[simp] theorem State.setFlagByte_flagByte : s.setFlagByte s.flagByte = s := by
  rw [State.setFlagByte, State.flagByte_sign, State.flagByte_zero, State.flagByte_carry]

/-- A register that latches its own value is unchanged. -/
theorem State.latch_source_self {sel : Sel} (h : sel ≠ .m) (adr : Addr) : s.latch sel adr (s.source sel adr) = s := by
  cases sel
  case m => exact absurd rfl h
  case flags => exact s.setFlagByte_flagByte
  all_goals rfl

/-! ### The commits -/

section commits

variable (f : ControlWord) (adr : Addr) (out : Byte) (cout : Bool)

@[simp] theorem State.commitLatch_inte : (s.commitLatch f adr out).inte = s.inte := by
  unfold State.commitLatch; split <;> simp

@[simp] theorem State.commitLatch_step : (s.commitLatch f adr out).step = s.step := by
  unfold State.commitLatch; split <;> simp

theorem State.commitLatch_cy :
    (s.commitLatch f adr out).cy = if f.alu ≠ .cmp ∧ f.dst = .flags then out.getLsbD 0 else s.cy := by
  by_cases hcmp : f.alu = .cmp <;> simp [State.commitLatch, State.latch_cy, hcmp]

theorem State.commitLatch_zf :
    (s.commitLatch f adr out).zf = if f.alu ≠ .cmp ∧ f.dst = .flags then out.getLsbD 6 else s.zf := by
  by_cases hcmp : f.alu = .cmp <;> simp [State.commitLatch, State.latch_zf, hcmp]

theorem State.commitLatch_sf :
    (s.commitLatch f adr out).sf = if f.alu ≠ .cmp ∧ f.dst = .flags then out.getLsbD 7 else s.sf := by
  by_cases hcmp : f.alu = .cmp <;> simp [State.commitLatch, State.latch_sf, hcmp]

theorem State.commitCarry_eq : s.commitCarry f cout = { s with cy := if f.ccap then cout else s.cy } := by
  unfold State.commitCarry; split <;> rfl

theorem State.commitZS_eq :
    s.commitZS f out =
      { s with zf := if f.zscap then zeroOf out else s.zf, sf := if f.zscap then signOf out else s.sf } := by
  unfold State.commitZS; split <;> rfl

theorem State.commitSet_eq : s.commitSet f = { s with cy := if f.cset then true else s.cy } := by
  unfold State.commitSet; split <;> rfl

theorem State.commitComplement_eq : s.commitComplement f = { s with cy := if f.ccpl then !s.cy else s.cy } := by
  unfold State.commitComplement; split <;> rfl

theorem State.commitSwap_eq :
    s.commitSwap f =
      { s with
        h := if f.swap then s.d else s.h, l := if f.swap then s.e else s.l
        d := if f.swap then s.h else s.d, e := if f.swap then s.l else s.e } := by
  unfold State.commitSwap; split <;> rfl

theorem State.commitInte_eq :
    s.commitInte f = { s with inte := if f.di then false else if f.ei then true else s.inte } := by
  unfold State.commitInte; split <;> split <;> rfl

end commits

/-! ### The micro-step -/

/-- CY after the commits (3), (5) and (6) of R121, from the value the latch leaves and the carry-out. -/
def carryAfter (f : ControlWord) (latched cout : Bool) : Bool :=
  let captured := if f.ccap then cout else latched
  let asserted := if f.cset then true else captured
  if f.ccpl then !asserted else asserted

/-- Everything a micro-step does (R120, R121): the latch, the flags and latches by value, and register swap over them. -/
theorem microStep_eq (f : ControlWord) :
    microStep f s =
      let out := (s.aluOutput f).1
      let cout := (s.aluOutput f).2
      let latched := s.commitLatch f (s.address f.adr) out
      { latched with
        cy := carryAfter f latched.cy cout
        zf := if f.zscap then zeroOf out else latched.zf
        sf := if f.zscap then signOf out else latched.sf
        chain := cout
        inte := if f.di then false else if f.ei then true else s.inte
        step := if f.last then 0 else s.step + 1 : State }.commitSwap f := by
  simp only [microStep, State.commitCarry_eq, State.commitZS_eq, State.commitSet_eq, State.commitComplement_eq,
    State.commitSwap_eq, State.commitInte_eq, State.commitStep]
  simp [State.withChain, carryAfter]

section fields

variable (f : ControlWord)

@[simp] theorem microStep_chain : (microStep f s).chain = (s.aluOutput f).2 := by
  rw [microStep_eq, State.commitSwap_eq]

theorem microStep_cy :
    (microStep f s).cy =
      carryAfter f (if f.alu ≠ .cmp ∧ f.dst = .flags then (s.aluOutput f).1.getLsbD 0 else s.cy) (s.aluOutput f).2 := by
  rw [microStep_eq, State.commitSwap_eq, ← State.commitLatch_cy]

theorem microStep_zf :
    (microStep f s).zf =
      if f.zscap then decide ((s.aluOutput f).1 = 0x00)
      else if f.alu ≠ .cmp ∧ f.dst = .flags then (s.aluOutput f).1.getLsbD 6 else s.zf := by
  rw [microStep_eq, State.commitSwap_eq, ← State.commitLatch_zf]
  rfl

theorem microStep_sf :
    (microStep f s).sf =
      if f.zscap then (s.aluOutput f).1.getLsbD 7
      else if f.alu ≠ .cmp ∧ f.dst = .flags then (s.aluOutput f).1.getLsbD 7 else s.sf := by
  rw [microStep_eq, State.commitSwap_eq, ← State.commitLatch_sf]
  rfl

@[simp] theorem microStep_inte : (microStep f s).inte = if f.di then false else if f.ei then true else s.inte := by
  rw [microStep_eq, State.commitSwap_eq]

end fields

/-- Register swap comes after all that the word does without it (R131). -/
theorem microStep_eq_commitSwap (f : ControlWord) : microStep f s = (microStep { f with swap := false } s).commitSwap f := by
  rw [microStep_eq, microStep_eq]
  rfl

/-! ### The zero word -/

/-- R68: the zero word is IDLE. -/
theorem decode_zero : ControlWord.decode 0x00000000 = MicroOp.idle := by decide

end Sys2Proof.Machine

namespace Sys2Proof

open Machine

/-- Settles O10: every clause is a field of the state after a micro-step; where two commits meet, the latch comes first and
the captures and signals after it in the order of R121. -/
theorem microStepCommits : Obligations.MicroStepCommits := by
  intro f s
  refine ⟨microStep_chain s f, ?cleared, microStep_cy s f, microStep_zf s f, microStep_sf s f, microStep_inte s f, ?swap⟩
  case cleared => exact fun hop => (microStep_chain s f).trans (alu_carry_eq_false hop ..)
  case swap => exact microStep_eq_commitSwap s f

/-- Settles O12: the bus carries the register's own value, so the latch writes it back, and no other commit is on. -/
theorem inertWords : Obligations.InertWords := by
  refine ⟨?inert, ?zeroWord⟩
  case inert =>
    intro f s hself hsrc hbyp hmask hccap hzscap hcset hccpl hswap hei hdi
    have halu : s.aluOutput f = (s.source f.src (s.address f.adr), false) := by
      rw [s.aluOutput_of_byp hbyp, s.busValue_eq_source hmask]
    have hlatch : s.commitLatch f (s.address f.adr) (s.source f.src (s.address f.adr)) = s := by
      simp [State.commitLatch, hbyp, ← hself, s.latch_source_self hsrc]
    simp [microStep_eq, halu, hlatch, State.commitSwap_eq, carryAfter, hccap, hzscap, hcset, hccpl, hswap, hei, hdi]
  case zeroWord =>
    intro s
    rw [microStepWord, decode_zero, microStep_idle]

end Sys2Proof
end

section
/-! PROOFS. The words of the control store (spec/43_sequencer_and_rom.md R184 to R196): what the suffixes do to a step, what
the micro-programs are made of, and the bank that they fill, step by step. The rows differ only in their shape, so that
every fact is proved once per shape and read off at the address. -/

namespace Sys2Proof.Machine

open MicroOp

/-! ### The suffixes -/

@[simp] theorem length_markLast (seq : List ControlWord) : (markLast seq).length = seq.length := by
  induction seq using markLast.induct with
  | case1 | case2 => rfl
  | case3 u v rest ih => simp [markLast, ih]

@[simp] theorem length_markSelect (sel : CSel) (seq : List ControlWord) :
    (markSelect sel seq).length = seq.length := by
  unfold markSelect
  split <;> simp

theorem getElem?_markLast (seq : List ControlWord) (k : Nat) :
    (markLast seq)[k]? = seq[k]?.map fun u => if k + 1 = seq.length then withLast u else u := by
  induction seq using markLast.induct generalizing k with
  | case1 => rfl
  | case2 u => cases k <;> simp [markLast]
  | case3 u v rest ih =>
    cases k with
    | zero => simp [markLast]
    | succ k => simp [markLast, ih]

theorem getElem?_markSelect (sel : CSel) (seq : List ControlWord) (k : Nat) :
    (markSelect sel seq)[k]? = seq[k]?.map fun u => if sel = .none ∨ k = 0 then u else withSelect sel u := by
  unfold markSelect
  split
  case h_1 => simp
  case h_2 => simp
  case h_3 u rest hsel =>
    have hne : sel ≠ .none := fun h => hsel h
    cases k with
    | zero => simp
    | succ k => simp [hne]

/-- The two suffixes write different fields, so that their order does not matter. -/
theorem map_withSelect_markLast (sel : CSel) (seq : List ControlWord) :
    (markLast seq).map (withSelect sel) = markLast (seq.map (withSelect sel)) := by
  induction seq using markLast.induct with
  | case1 | case2 => rfl
  | case3 u v rest ih => simpa [markLast] using ih

/-! ### The words of a micro-program -/

/-- A word that may stand before the last step: no suffix on it, and not the zero word. -/
structure InnerWord (u : ControlWord) : Prop where
  ne_idle : u ≠ idle
  csel : u.csel = .none
  last : u.last = false

/-- A word that may stand at the last step, before its marker: RSTVEC alone has a condition select of its own. -/
structure FinalWord (u : ControlWord) : Prop where
  csel : u.csel = .none ∨ u = rstvec
  last : u.last = false

@[simp] theorem innerWord_fetch : InnerWord fetch := ⟨by simp [fetch, idle], rfl, rfl⟩
@[simp] theorem innerWord_mov {dst : Sel} (src : Sel) (h : dst ≠ .b) : InnerWord (mov dst src) :=
  ⟨by simp [mov, idle, h], rfl, rfl⟩
@[simp] theorem innerWord_ld (dst : Sel) (p : AdrSrc) : InnerWord (ld dst p) := ⟨by simp [ld, idle], rfl, rfl⟩
@[simp] theorem innerWord_st (p : AdrSrc) (src : Sel) : InnerWord (st p src) := ⟨by simp [st, idle], rfl, rfl⟩
@[simp] theorem innerWord_incl (r : Sel) : InnerWord (incl r) := ⟨by simp [incl, idle], rfl, rfl⟩
@[simp] theorem innerWord_inch (r : Sel) : InnerWord (inch r) := ⟨by simp [inch, idle], rfl, rfl⟩
@[simp] theorem innerWord_decl (r : Sel) : InnerWord (decl r) := ⟨by simp [decl, idle], rfl, rfl⟩
@[simp] theorem innerWord_dech (r : Sel) : InnerWord (dech r) := ⟨by simp [dech, idle], rfl, rfl⟩
@[simp] theorem innerWord_inr (r : Sel) : InnerWord (inr r) := ⟨by simp [inr, idle], rfl, rfl⟩
@[simp] theorem innerWord_dcr (r : Sel) : InnerWord (dcr r) := ⟨by simp [dcr, idle], rfl, rfl⟩
@[simp] theorem innerWord_inrM (dst : Sel) (p : AdrSrc) : InnerWord (inrM dst p) := ⟨by simp [inrM, idle], rfl, rfl⟩
@[simp] theorem innerWord_dcrM (dst : Sel) (p : AdrSrc) : InnerWord (dcrM dst p) := ⟨by simp [dcrM, idle], rfl, rfl⟩
@[simp] theorem innerWord_acc (op : AccOp) (src : Sel) : InnerWord (acc op src) := ⟨by simp [acc, idle], rfl, rfl⟩
@[simp] theorem innerWord_accM (op : AccOp) (p : AdrSrc) : InnerWord (accM op p) := ⟨by simp [accM, idle], rfl, rfl⟩
@[simp] theorem innerWord_addc (dst src : Sel) : InnerWord (addc dst src) := ⟨by simp [addc, idle], rfl, rfl⟩
@[simp] theorem innerWord_adcc (dst src : Sel) : InnerWord (adcc dst src) := ⟨by simp [adcc, idle], rfl, rfl⟩
@[simp] theorem innerWord_xornf (src : Sel) : InnerWord (xornf src) := ⟨by simp [xornf, idle], rfl, rfl⟩
@[simp] theorem innerWord_clr (r : Sel) : InnerWord (clr r) := ⟨by simp [clr, idle], rfl, rfl⟩
@[simp] theorem innerWord_rotRlc1 : InnerWord rotRlc1 := ⟨by simp [rotRlc1, idle], rfl, rfl⟩
@[simp] theorem innerWord_rotRlc2 : InnerWord rotRlc2 := ⟨by simp [rotRlc2, idle], rfl, rfl⟩
@[simp] theorem innerWord_rotRrc : InnerWord rotRrc := ⟨by simp [rotRrc, idle], rfl, rfl⟩
@[simp] theorem innerWord_rotRal : InnerWord rotRal := ⟨by simp [rotRal, idle], rfl, rfl⟩
@[simp] theorem innerWord_rotRar : InnerWord rotRar := ⟨by simp [rotRar, idle], rfl, rfl⟩
@[simp] theorem innerWord_sigStc : InnerWord sigStc := ⟨by simp [sigStc, idle], rfl, rfl⟩
@[simp] theorem innerWord_sigCmc : InnerWord sigCmc := ⟨by simp [sigCmc, idle], rfl, rfl⟩
@[simp] theorem innerWord_sigXchg : InnerWord sigXchg := ⟨by simp [sigXchg, idle], rfl, rfl⟩
@[simp] theorem innerWord_sigEi : InnerWord sigEi := ⟨by simp [sigEi, idle], rfl, rfl⟩
@[simp] theorem innerWord_sigDi : InnerWord sigDi := ⟨by simp [sigDi, idle], rfl, rfl⟩

theorem InnerWord.final {u : ControlWord} (h : InnerWord u) : FinalWord u := ⟨.inl h.csel, h.last⟩

/-! ### The shape of a micro-program -/

/-- Every word may stand before the last step. -/
def AllInner (seq : List ControlWord) : Prop := ∀ u ∈ seq, InnerWord u

@[simp] theorem allInner_nil : AllInner [] := by simp [AllInner]

@[simp] theorem allInner_cons (u : ControlWord) (seq : List ControlWord) :
    AllInner (u :: seq) ↔ InnerWord u ∧ AllInner seq := by
  simp [AllInner]

@[simp] theorem allInner_append (seq seq' : List ControlWord) :
    AllInner (seq ++ seq') ↔ AllInner seq ∧ AllInner seq' :=
  List.forall_mem_append

@[simp] theorem allInner_adv : AllInner adv := by simp [adv]
@[simp] theorem allInner_spInc : AllInner spInc := by simp [spInc]
@[simp] theorem allInner_spDec : AllInner spDec := by simp [spDec]
@[simp] theorem allInner_maInc : AllInner maInc := by simp [maInc]
@[simp] theorem allInner_prologue : AllInner prologue := by simp [prologue]
@[simp] theorem allInner_fetchMA : AllInner fetchMA := by simp [fetchMA]
@[simp] theorem allInner_pushSteps (hi lo : Sel) : AllInner (pushSteps hi lo) := by simp [pushSteps]
@[simp] theorem allInner_popSteps (hi lo : Sel) : AllInner (popSteps hi lo) := by simp [popSteps]
@[simp] theorem allInner_jumpSteps : AllInner jumpSteps := by simp [jumpSteps]
@[simp] theorem allInner_callSteps : AllInner callSteps := by simp [callSteps]
@[simp] theorem allInner_returnSteps : AllInner returnSteps := by simp [returnSteps]

/-- A final word after any number of inner ones. -/
structure WellBuilt (seq : List ControlWord) : Prop where
  body : AllInner seq.dropLast
  final : ∀ u ∈ seq, FinalWord u

theorem WellBuilt.inner_of_getElem? {seq : List ControlWord} (h : WellBuilt seq) {k : Nat} {u : ControlWord}
    (hu : seq[k]? = some u) (hk : k + 1 < seq.length) : InnerWord u := by
  have hdrop : seq.dropLast[k]? = some u := by rwa [List.getElem?_dropLast, if_pos (by omega)]
  exact h.body u (List.mem_of_getElem? hdrop)

theorem AllInner.wellBuilt {seq : List ControlWord} (h : AllInner seq) : WellBuilt seq :=
  ⟨fun u hu => h u (List.mem_of_mem_dropLast hu), fun u hu => (h u hu).final⟩

theorem AllInner.wellBuilt_concat {seq : List ControlWord} (h : AllInner seq) {u : ControlWord} (hu : FinalWord u) :
    WellBuilt (seq ++ [u]) := by
  refine ⟨by rwa [List.dropLast_concat], fun v hv => ?_⟩
  obtain hv | hv := List.mem_append.1 hv
  · exact (h v hv).final
  · rwa [List.mem_singleton.1 hv]

/-- Three rows end in a word that is not inner: MOV, because `MOV B,B` is the zero word, HLT in IDLE, and RST in RSTVEC. -/
theorem wellBuilt_microProgram (sh : Shape) (bank : Bool) : WellBuilt (microProgram sh bank) := by
  cases sh
  case movRR dst src => exact allInner_prologue.wellBuilt_concat ⟨.inl rfl, rfl⟩
  case hlt => exact AllInner.wellBuilt_concat (seq := [fetch]) (by simp) ⟨.inl rfl, rfl⟩
  case rst n =>
    exact AllInner.wellBuilt_concat (seq := prologue ++ pushSteps .pch .pcl ++ [clr .pch]) (by simp) ⟨.inr rfl, rfl⟩
  case jcc | ccc | rcc => apply AllInner.wellBuilt; cases bank <;> simp [microProgram]
  all_goals apply AllInner.wellBuilt; simp [microProgram]

/-- The length of a micro-program is the documented step count (R366). -/
theorem length_microProgram (sh : Shape) (bank : Bool) : (microProgram sh bank).length = stepCount sh bank := by
  cases sh
  case jcc | ccc | rcc => cases bank <;> rfl
  all_goals rfl

theorem stepCount_bounds (sh : Shape) (bank : Bool) : 2 ≤ stepCount sh bank ∧ stepCount sh bank ≤ 17 := by
  cases sh
  case jcc | ccc | rcc => cases bank <;> simp [stepCount]
  all_goals simp [stepCount]

theorem getElem?_zero_microProgram (sh : Shape) (bank : Bool) : (microProgram sh bank)[0]? = some fetch := by
  cases sh
  case jcc | ccc | rcc => cases bank <;> rfl
  all_goals rfl

/-! ### Conditional rows -/

/-- The condition of a row of Rcc, Jcc or Ccc (R185). -/
def conditionOf : Shape → Option Cond
  | .rcc cc | .jcc cc | .ccc cc => some cc
  | _ => none

theorem rowSelect_of_some {sh : Shape} {cc : Cond} (h : conditionOf sh = some cc) : rowSelect sh = cc.csel := by
  cases sh
  case rcc | jcc | ccc =>
    obtain rfl := Option.some.inj h
    rfl
  all_goals cases h

theorem rowSelect_of_none {sh : Shape} (h : conditionOf sh = none) : rowSelect sh = .none := by
  cases sh
  case rcc | jcc | ccc => cases h
  all_goals rfl

/-- R193: only the conditional rows look at the bank. -/
theorem microProgram_bank_eq {sh : Shape} (h : conditionOf sh = none) : microProgram sh false = microProgram sh true := by
  cases sh
  case rcc | jcc | ccc => cases h
  all_goals rfl

theorem allInner_microProgram {sh : Shape} {cc : Cond} (h : conditionOf sh = some cc) (bank : Bool) :
    AllInner (microProgram sh bank) := by
  cases sh
  case rcc | jcc | ccc => cases bank <;> simp [microProgram]
  all_goals cases h

theorem stepCount_ne {sh : Shape} {cc : Cond} (h : conditionOf sh = some cc) :
    stepCount sh false ≠ stepCount sh true := by
  cases sh
  case rcc | jcc | ccc => simp [stepCount]
  all_goals cases h

theorem conditionOf_shapeOfGroup0 (op : Byte) : conditionOf (shapeOfGroup0 op) = none := by
  unfold shapeOfGroup0
  split <;> (try split) <;> rfl

theorem conditionOf_shapeOfGroup1 (op : Byte) : conditionOf (shapeOfGroup1 op) = none := by
  unfold shapeOfGroup1
  split <;> rfl

theorem conditionOf_shapeOfGroup2 (op : Byte) : conditionOf (shapeOfGroup2 op) = none := by
  unfold shapeOfGroup2
  split <;> rfl

theorem conditionOf_shapeOfGroup3 (op : Byte) :
    conditionOf (shapeOfGroup3 op) =
      if opLow op = 0 ∨ opLow op = 2 ∨ opLow op = 4 then some (Cond.ofField (opMid op)) else none := by
  unfold shapeOfGroup3
  simp only [← BitVec.toNat_inj]
  split
  case h_1 low | h_3 low | h_5 low => simp [low, conditionOf]
  case h_2 low | h_4 low | h_6 low | h_7 low =>
    have hcond : ¬((opLow op).toNat = (0 : BitVec 3).toNat ∨ (opLow op).toNat = (2 : BitVec 3).toNat
        ∨ (opLow op).toNat = (4 : BitVec 3).toNat) := by simp [low]
    rw [if_neg hcond]
    repeat' split
    all_goals rfl
  case h_8 hne0 _ hne2 _ hne4 _ _ => exact (if_neg (not_or.2 ⟨hne0, not_or.2 ⟨hne2, hne4⟩⟩)).symm

/-- The decoder's conditional rows are the 24 opcodes that the bank select looks at (R184). -/
theorem conditionOf_shapeOf (op : Byte) :
    conditionOf (shapeOf op) = if isConditional op then some (Cond.ofField (opMid op)) else none := by
  have hgroup : isConditional op = true ↔
      (opGroup op).toNat = 3 ∧ (opLow op = 0 ∨ opLow op = 2 ∨ opLow op = 4) := by
    simp [isConditional, ← BitVec.toNat_inj, or_assoc]
  simp only [hgroup]
  unfold shapeOf
  split
  case h_1 h => simp [h, conditionOf_shapeOfGroup0]
  case h_2 h => simp [h, conditionOf_shapeOfGroup1]
  case h_3 h => simp [h, conditionOf_shapeOfGroup2]
  case h_4 hne0 hne1 hne2 =>
    have hne : (opGroup op).toNat ≠ 0 ∧ (opGroup op).toNat ≠ 1 ∧ (opGroup op).toNat ≠ 2 := ⟨hne0, hne1, hne2⟩
    have hthree : (opGroup op).toNat = 3 := by omega
    simp [hthree, conditionOf_shapeOfGroup3]

theorem conditionOf_of_conditional {op : Byte} (h : isConditional op = true) :
    conditionOf (shapeOf op) = some (Cond.ofField (opMid op)) := by
  rw [conditionOf_shapeOf, if_pos h]

theorem conditionOf_of_unconditional {op : Byte} (h : isConditional op = false) : conditionOf (shapeOf op) = none := by
  rw [conditionOf_shapeOf, h]
  rfl

theorem isConditional_iff : ∀ op : Byte,
    isConditional op = true ↔ op &&& 0xC7 = 0xC0 ∨ op &&& 0xC7 = 0xC2 ∨ op &&& 0xC7 = 0xC4 := by decide

/-! ### The words of a bank -/

section word

variable (op : Byte) (bank : Bool)

/-- The word `u` at step `k` of a bank, with both suffixes (R171, R172, R187). -/
def suffixed (k : Nat) (u : ControlWord) : ControlWord :=
  { u with
    csel := if rowSelect (shapeOf op) = .none ∨ k = 0 then u.csel else rowSelect (shapeOf op)
    last := u.last || decide (k + 1 = stepCount (shapeOf op) bank) }

theorem getElem?_bankProgram (k : Nat) :
    (bankProgram op bank)[k]? = (microProgram (shapeOf op) bank)[k]?.map (suffixed op bank k) := by
  rw [bankProgram, getElem?_markLast, getElem?_markSelect, length_markSelect, length_microProgram, Option.map_map]
  congr 1
  funext u
  simp only [Function.comp]
  split_ifs <;> simp [suffixed, withLast, withSelect, *]

@[simp] theorem length_bankProgram : (bankProgram op bank).length = stepCount (shapeOf op) bank := by
  rw [bankProgram, length_markLast, length_markSelect, length_microProgram]

theorem decode_romWord (k : BitVec 5) :
    ControlWord.decode (romWord op bank k) = ((bankProgram op bank)[k.toNat]?).getD idle := by
  unfold romWord
  cases (bankProgram op bank)[k.toNat]? with
  | none => exact decode_zero
  | some u => simp

/-- A used step holds the step of the micro-program with its suffixes. -/
theorem decode_romWord_of_used {k : BitVec 5} {u : ControlWord}
    (hu : (microProgram (shapeOf op) bank)[k.toNat]? = some u) :
    ControlWord.decode (romWord op bank k) = suffixed op bank k.toNat u := by
  rw [decode_romWord, getElem?_bankProgram, hu, Option.map_some, Option.getD_some]

/-- R190, R192: beyond the last step the bank is zero. -/
theorem romWord_of_padding {k : BitVec 5} (h : stepCount (shapeOf op) bank ≤ k.toNat) :
    romWord op bank k = 0x00000000 := by
  rw [romWord, List.getElem?_eq_none (by rwa [length_bankProgram])]
  rfl

/-- A step before the last holds an inner word, its condition select apart. -/
theorem decode_romWord_before_last {k : BitVec 5} (h : k.toNat + 1 < stepCount (shapeOf op) bank) :
    ∃ u, InnerWord u ∧ ControlWord.decode (romWord op bank k) = suffixed op bank k.toNat u := by
  rw [← length_microProgram] at h
  obtain ⟨u, hu⟩ : ∃ u, (microProgram (shapeOf op) bank)[k.toNat]? = some u := ⟨_, List.getElem?_eq_getElem (by omega)⟩
  exact ⟨u, (wellBuilt_microProgram _ _).inner_of_getElem? hu h, decode_romWord_of_used op bank hu⟩

/-- The last step holds a final word and its marker. -/
theorem decode_romWord_at_last {k : BitVec 5} (h : k.toNat + 1 = stepCount (shapeOf op) bank) :
    ∃ u, FinalWord u ∧ ControlWord.decode (romWord op bank k) = suffixed op bank k.toNat u := by
  rw [← length_microProgram] at h
  obtain ⟨u, hu⟩ : ∃ u, (microProgram (shapeOf op) bank)[k.toNat]? = some u := ⟨_, List.getElem?_eq_getElem (by omega)⟩
  exact ⟨u, (wellBuilt_microProgram _ _).final u (List.mem_of_getElem? hu), decode_romWord_of_used op bank hu⟩

end word

/-- Neither suffix makes an inner word zero. -/
theorem suffixed_ne_idle {u : ControlWord} (h : InnerWord u) {op : Byte} {bank : Bool} {k : Nat}
    (hk : k + 1 ≠ stepCount (shapeOf op) bank) : suffixed op bank k u ≠ idle := by
  intro hidle
  by_cases hsel : rowSelect (shapeOf op) = .none ∨ k = 0
  · exact h.ne_idle (by simpa [suffixed, hsel, hk] using hidle)
  · have hcsel : (suffixed op bank k u).csel = rowSelect (shapeOf op) := if_neg hsel
    rw [hidle] at hcsel
    exact hsel (.inl hcsel.symm)

/-- LAST stands at the last step and nowhere before it. -/
theorem romWord_last_of_used {op : Byte} {bank : Bool} {k : BitVec 5} (h : k.toNat < stepCount (shapeOf op) bank) :
    (romWord op bank k).getLsbD 31 = decide (k.toNat + 1 = stepCount (shapeOf op) bank) := by
  have hlast : (romWord op bank k).getLsbD 31 = (ControlWord.decode (romWord op bank k)).last := rfl
  rw [hlast]
  by_cases hk : k.toNat + 1 = stepCount (shapeOf op) bank
  · obtain ⟨u, -, hw⟩ := decode_romWord_at_last op bank hk
    simp [hw, suffixed, hk]
  · obtain ⟨u, hu, hw⟩ := decode_romWord_before_last op bank (k := k) (by omega)
    simp [hw, suffixed, hk, hu.last]

end Sys2Proof.Machine

namespace Sys2Proof

open Machine

/-- Settles O14: every micro-program begins with FETCH, and no suffix reaches step 0 of two or more. -/
theorem fetchAtStepZero : Obligations.FetchAtStepZero := by
  intro op bank
  have hn := (stepCount_bounds (shapeOf op) bank).1
  have hdecode : ControlWord.decode (romWord op bank 0) = MicroOp.fetch := by
    rw [decode_romWord_of_used op bank (getElem?_zero_microProgram _ _)]
    have hnotLast : 1 ≠ stepCount (shapeOf op) bank := by omega
    simp [suffixed, hnotLast, MicroOp.fetch]
  calc controlStore (romAddress op bank 0)
    _ = (ControlWord.decode (romWord op bank 0)).encode := by
      rw [controlStore_romAddress, ControlWord.encode_decode]
    _ = 0x000001F6 := by
      rw [hdecode]
      decide

/-- Settles O15, with the documented step count for `n`. -/
theorem oneLastWord : Obligations.OneLastWord := by
  intro op bank
  refine ⟨stepCount (shapeOf op) bank, (stepCount_bounds _ _).1, (stepCount_bounds _ _).2, fun k => ?_⟩
  simp only [controlStore_romAddress]
  refine ⟨fun hbefore => ⟨?nonzero, ?unmarked⟩, fun hat => ?marked, fun hafter => ?padding⟩
  case nonzero =>
    obtain ⟨u, hu, hw⟩ := decode_romWord_before_last op bank hbefore
    intro hzero
    rw [hzero, decode_zero] at hw
    exact suffixed_ne_idle hu hbefore.ne hw.symm
  case unmarked => rw [romWord_last_of_used (by omega), decide_eq_false hbefore.ne]
  case marked => rw [romWord_last_of_used (by omega), decide_eq_true hat]
  case padding => exact romWord_of_padding op bank (by omega)

/-- Settles O16: a row whose shape has no condition has one micro-program for both banks. -/
theorem unconditionalBanksEqual : Obligations.UnconditionalBanksEqual := by
  refine ⟨rfl, fun op k hrcc hjcc hccc => ?_⟩
  have hcond : isConditional op = false := by
    rw [← Bool.not_eq_true, isConditional_iff]
    exact not_or.2 ⟨hrcc, not_or.2 ⟨hjcc, hccc⟩⟩
  simp only [controlStore_romAddress, romWord, bankProgram,
    microProgram_bank_eq (conditionOf_of_unconditional hcond)]

end Sys2Proof
end

section
/-! PROOFS. The condition select and the bank select (spec/43_sequencer_and_rom.md R184 to R187). -/

namespace Sys2Proof.Machine

open MicroOp

/-! ### The condition select of a used word -/

theorem csel_of_conditional {op : Byte} (bank : Bool) {k : BitVec 5} (h : isConditional op = true) (hk : k ≠ 0)
    (hused : k.toNat < stepCount (shapeOf op) bank) :
    (ControlWord.decode (romWord op bank k)).csel = (Cond.ofField (opMid op)).csel := by
  have hcond := conditionOf_of_conditional h
  rw [← length_microProgram] at hused
  have hu := List.getElem?_eq_getElem hused
  have hinner := allInner_microProgram hcond bank _ (List.mem_of_getElem? hu)
  have hk' : k.toNat ≠ 0 := fun h0 => hk (BitVec.eq_of_toNat_eq h0)
  rw [decode_romWord_of_used op bank hu]
  by_cases hsel : (Cond.ofField (opMid op)).csel = .none
  · simp [suffixed, rowSelect_of_some hcond, hsel, hinner.csel]
  · simp [suffixed, rowSelect_of_some hcond, hsel, hk']

/-- In a row without a condition the word tells: RSTVEC with its marker, or no condition select. -/
theorem csel_of_unconditional {op : Byte} (bank : Bool) {k : BitVec 5} (h : isConditional op = false)
    (hused : k.toNat < stepCount (shapeOf op) bank) :
    (ControlWord.decode (romWord op bank k)).csel = if romWord op bank k = 0x8007009F then .rstv else .none := by
  have hsel := rowSelect_of_none (conditionOf_of_unconditional h)
  have hrstvec : ControlWord.decode 0x8007009F = withLast rstvec := by decide
  have hnone (hcsel : (ControlWord.decode (romWord op bank k)).csel = .none) : romWord op bank k ≠ 0x8007009F := by
    intro hw
    rw [hw, hrstvec] at hcsel
    cases hcsel
  by_cases hlast : k.toNat + 1 = stepCount (shapeOf op) bank
  · obtain ⟨u, ⟨hu | rfl, -⟩, hw⟩ := decode_romWord_at_last op bank hlast
    · have hcsel : (ControlWord.decode (romWord op bank k)).csel = .none := by simp [hw, hsel, suffixed, hu]
      rw [if_neg (hnone hcsel), hcsel]
    · have hdecode : ControlWord.decode (romWord op bank k) = ControlWord.decode 0x8007009F := by
        rw [hw, hrstvec]
        simp [suffixed, hsel, hlast, withLast]
      have hword : romWord op bank k = 0x8007009F := by
        rw [← ControlWord.encode_decode (romWord op bank k), hdecode, ControlWord.encode_decode]
      rw [if_pos hword, hword, hrstvec]
      rfl
  · obtain ⟨u, hu, hw⟩ := decode_romWord_before_last op bank (k := k) (by omega)
    have hcsel : (ControlWord.decode (romWord op bank k)).csel = .none := by simp [hw, hsel, suffixed, hu.csel]
    rw [if_neg (hnone hcsel), hcsel]

theorem toNat_ofNat_step {k : Nat} (hk : k < 32) : (BitVec.ofNat 5 k).toNat = k :=
  (BitVec.toNat_ofNat k 5).trans (Nat.mod_eq_of_lt hk)

/-- No marker before a step means that the step is used. -/
theorem used_of_unmarked {op : Byte} {bank : Bool} {k : BitVec 5}
    (h : ∀ j : BitVec 5, j.toNat < k.toNat → (romWord op bank j).getLsbD 31 = false) :
    k.toNat < stepCount (shapeOf op) bank := by
  by_contra hpadding
  have hbounds := stepCount_bounds (shapeOf op) bank
  have hj : (BitVec.ofNat 5 (stepCount (shapeOf op) bank - 1)).toNat = stepCount (shapeOf op) bank - 1 :=
    toNat_ofNat_step (by omega)
  have hmarked := romWord_last_of_used (op := op) (bank := bank) (hj.trans_lt (by omega))
  rw [h _ (by omega), decide_eq_true (by omega)] at hmarked
  cases hmarked

/-- R187: the condition select of a used word after step 0. -/
theorem csel_of_used (op : Byte) (bank : Bool) {k : BitVec 5} (hk : k ≠ 0)
    (hused : k.toNat < stepCount (shapeOf op) bank) :
    (ControlWord.decode (romWord op bank k)).csel =
      if isConditional op then (Cond.ofField (opMid op)).csel
      else if romWord op bank k = 0x8007009F then .rstv else .none := by
  cases hcond : isConditional op with
  | true => exact csel_of_conditional bank hcond hk hused
  | false => exact csel_of_unconditional bank hcond hused

theorem State.used_of_not_inPadding {s : State} (h : s.inPadding controlStore = false) :
    s.step.toNat < stepCount (shapeOf s.ir) s.bankSelect := by
  refine used_of_unmarked fun j hj => ?_
  rw [State.inPadding, List.any_eq_false] at h
  simpa [ControlWord.decode] using h j.toNat (List.mem_range.2 hj)

/-! ### The parity rows -/

theorem isConditional_po_iff : ∀ op : Byte,
    op = 0xE0 ∨ op = 0xE2 ∨ op = 0xE4 ↔ isConditional op = true ∧ Cond.ofField (opMid op) = .po := by decide

theorem isConditional_pe_iff : ∀ op : Byte,
    op = 0xE8 ∨ op = 0xEA ∨ op = 0xEC ↔ isConditional op = true ∧ Cond.ofField (opMid op) = .pe := by decide

end Sys2Proof.Machine

namespace Sys2Proof

open Machine

/-- Settles O18. A step is used if no marker stands before it; there the condition select is that of the row's condition,
whose flag the bank select reads, and in a parity row the bank select is the constant. -/
theorem conditionSelectInvariant : Obligations.ConditionSelectInvariant := by
  refine ⟨fun op bank k hk hunmarked => ?words, fun s hstep hpadding => ?bank⟩
  case words =>
    simp only [controlStore_romAddress, ← isConditional_iff] at *
    exact csel_of_used op bank hk (used_of_unmarked hunmarked)
  case bank =>
    have hcsel := csel_of_used s.ir s.bankSelect hstep (s.used_of_not_inPadding hpadding)
    rw [State.currentWord, controlStore_romAddress, hcsel, State.bankSelect]
    simp only [isConditional_po_iff, isConditional_pe_iff]
    cases isConditional s.ir with
    | true => cases Cond.ofField (opMid s.ir) <;> rfl
    | false =>
      simp only [Bool.false_eq_true, false_and, if_false]
      split_ifs <;> rfl

end Sys2Proof
end

section
/-! PROOFS. The conditional rows bank by bank (spec/43_sequencer_and_rom.md R194). -/

namespace Sys2Proof.Machine

open MicroOp

@[simp] theorem length_bankOf (rom : RomAddr → Word32) (op : Byte) (bank : Bool) : (bankOf rom op bank).length = 32 := by
  simp [bankOf]

@[simp] theorem getElem_bankOf (op : Byte) (bank : Bool) {k : Nat} (hk : k < (bankOf controlStore op bank).length) :
    (bankOf controlStore op bank)[k] = ControlWord.decode (romWord op bank (BitVec.ofNat 5 k)) := by
  simp [bankOf]

/-- The 32 words of a bank: the used steps, and IDLE beyond them. -/
theorem bankOf_controlStore (op : Byte) (bank : Bool) :
    bankOf controlStore op bank =
      bankProgram op bank ++ List.replicate (32 - stepCount (shapeOf op) bank) idle := by
  have hbounds := stepCount_bounds (shapeOf op) bank
  refine List.ext_getElem (by simp; omega) fun k hk _ => ?_
  rw [length_bankOf] at hk
  rw [getElem_bankOf, decode_romWord, toNat_ofNat_step hk, List.getElem_append]
  split
  case isTrue hused => rw [List.getElem?_eq_getElem hused, Option.getD_some]
  case isFalse hpadding => rw [List.getElem?_eq_none (by omega), Option.getD_none, List.getElem_replicate]

theorem withSelect_none_of_innerWord {u : ControlWord} (h : InnerWord u) : withSelect .none u = u := by
  rw [withSelect, ← h.csel]

theorem map_withSelect_none_markSelect {seq : List ControlWord} (h : AllInner seq) (sel : CSel) :
    (markSelect sel seq).map (withSelect .none) = seq := by
  have hmap : seq.map (withSelect .none) = seq := by
    rw [List.map_congr_left fun u hu => withSelect_none_of_innerWord (h u hu), List.map_id']
  unfold markSelect
  split
  case h_1 => exact hmap
  case h_2 => rfl
  case h_3 u rest _ =>
    rw [List.map_cons, List.map_map]
    exact hmap

section row

variable {op : Byte} {sh : Shape} (hsh : shapeOf op = sh)
include hsh

/-- The bank of a conditional row without its condition select: the micro-program with its marker. -/
theorem map_withSelect_none_bankOf {cc : Cond} (hcond : conditionOf sh = some cc) (bank : Bool) :
    (bankOf controlStore op bank).map (withSelect .none) =
      markLast (microProgram sh bank) ++ List.replicate (32 - stepCount sh bank) idle := by
  subst hsh
  rw [bankOf_controlStore, List.map_append, bankProgram, map_withSelect_markLast,
    map_withSelect_none_markSelect (allInner_microProgram hcond bank), List.map_replicate]
  rfl

/-- The bank of a row that has no condition select. -/
theorem bankOf_of_unselected (hsel : rowSelect sh = .none) (bank : Bool) :
    bankOf controlStore op bank =
      markLast (microProgram sh bank) ++ List.replicate (32 - stepCount sh bank) idle := by
  subst hsh
  rw [bankOf_controlStore, bankProgram, hsel, markSelect]

/-- The marker of a bank stands at its last step. -/
theorem findIdx_last_bankOf (bank : Bool) :
    (bankOf controlStore op bank).findIdx (fun f => f.last) + 1 = stepCount sh bank := by
  subst hsh
  have hbounds := stepCount_bounds (shapeOf op) bank
  have hlast {k : Nat} (hk : k < stepCount (shapeOf op) bank) :
      (ControlWord.decode (romWord op bank (BitVec.ofNat 5 k))).last = decide (k + 1 = stepCount (shapeOf op) bank) := by
    have hk' := toNat_ofNat_step (k := k) (by omega)
    have hword := romWord_last_of_used (op := op) (bank := bank) (hk'.trans_lt hk)
    rwa [hk'] at hword
  have hidx : (bankOf controlStore op bank).findIdx (fun f => f.last) = stepCount (shapeOf op) bank - 1 := by
    rw [List.findIdx_eq (by rw [length_bankOf]; omega)]
    refine ⟨?marked, fun j hj => ?unmarked⟩
    case marked =>
      rw [getElem_bankOf, hlast (by omega)]
      exact decide_eq_true (by omega)
    case unmarked =>
      rw [getElem_bankOf, hlast (by omega)]
      exact decide_eq_false (by omega)
  omega

/-- R194: the banks of a conditional row end at different steps. -/
theorem bankOf_ne_of_conditional {cc : Cond} (hcond : conditionOf sh = some cc) :
    bankOf controlStore op false ≠ bankOf controlStore op true := by
  intro heq
  have hcount : stepCount sh false = stepCount sh true := by
    rw [← findIdx_last_bankOf hsh, ← findIdx_last_bankOf hsh, heq]
  exact stepCount_ne hcond hcount

/-- In a parity row no word has a condition select. -/
theorem csel_of_mem_bankOf {cc : Cond} (hcond : conditionOf sh = some cc) (hcc : cc.csel = .none)
    {bank : Bool} {f : ControlWord} (hf : f ∈ bankOf controlStore op bank) : f.csel = .none := by
  rw [bankOf_of_unselected hsh ((rowSelect_of_some hcond).trans hcc), ← map_withSelect_none_bankOf hsh hcond] at hf
  obtain ⟨u, -, rfl⟩ := List.mem_map.1 hf
  rfl

end row

/-- A bank of a conditional row is, apart from the condition select, that of a row with the same steps and none. -/
theorem map_withSelect_none_bankOf_eq {op op' : Byte} {sh sh' : Shape} (hsh : shapeOf op = sh) (hsh' : shapeOf op' = sh')
    {cc : Cond} (hcond : conditionOf sh = some cc) (hsel : rowSelect sh' = .none) {bank : Bool}
    (hprog : microProgram sh bank = microProgram sh' bank) :
    (bankOf controlStore op bank).map (withSelect .none) = bankOf controlStore op' bank := by
  rw [map_withSelect_none_bankOf hsh hcond, bankOf_of_unselected hsh' hsel, ← length_microProgram, ← length_microProgram,
    hprog]

theorem shapeOf_rcc : ∀ n : BitVec 3, shapeOf (0xC0 + n.setWidth 8 <<< 3) = .rcc (Cond.ofField n) := by decide
theorem shapeOf_jcc : ∀ n : BitVec 3, shapeOf (0xC2 + n.setWidth 8 <<< 3) = .jcc (Cond.ofField n) := by decide
theorem shapeOf_ccc : ∀ n : BitVec 3, shapeOf (0xC4 + n.setWidth 8 <<< 3) = .ccc (Cond.ofField n) := by decide

/-- The three rows of a condition (R75). -/
theorem conditionOf_of_mem_rows {n : BitVec 3} {op : Byte}
    (h : op ∈ [0xC0 + n.setWidth 8 <<< 3, 0xC2 + n.setWidth 8 <<< 3, 0xC4 + n.setWidth 8 <<< 3]) :
    conditionOf (shapeOf op) = some (Cond.ofField n) := by
  simp only [List.mem_cons, List.not_mem_nil, or_false] at h
  obtain rfl | rfl | rfl := h
  · rw [shapeOf_rcc, conditionOf]
  · rw [shapeOf_jcc, conditionOf]
  · rw [shapeOf_ccc, conditionOf]

end Sys2Proof.Machine

namespace Sys2Proof

open Machine

/-- Settles O17. Without its condition select a bank is the micro-program of its shape with the marker: that of RET, JMP or
CALL in bank 1, the fetch and the advances in bank 0; the step counts, which tell the banks apart, are the documented ones. -/
theorem conditionalBanks : Obligations.ConditionalBanks := by
  refine ⟨fun n op hop => ⟨?differ, fun hparity f hf => ?parity⟩, fun n => ?rows⟩
  case differ => exact bankOf_ne_of_conditional rfl (conditionOf_of_mem_rows hop)
  case parity =>
    have hsel : (Cond.ofField n).csel = .none := by obtain rfl | rfl := hparity <;> rfl
    obtain hf | hf := List.mem_append.1 hf <;> exact csel_of_mem_bankOf rfl (conditionOf_of_mem_rows hop) hsel hf
  case rows =>
    have hrcc := shapeOf_rcc n
    have hjcc := shapeOf_jcc n
    have hccc := shapeOf_ccc n
    exact ⟨map_withSelect_none_bankOf_eq hrcc (sh' := .ret) rfl rfl rfl rfl,
      map_withSelect_none_bankOf_eq hjcc (sh' := .jmp) rfl rfl rfl rfl,
      map_withSelect_none_bankOf_eq hccc (sh' := .call) rfl rfl rfl rfl,
      map_withSelect_none_bankOf hrcc rfl false, map_withSelect_none_bankOf hjcc rfl false,
      map_withSelect_none_bankOf hccc rfl false,
      findIdx_last_bankOf hrcc false, findIdx_last_bankOf hjcc false, findIdx_last_bankOf hccc false,
      findIdx_last_bankOf hrcc true, findIdx_last_bankOf hjcc true, findIdx_last_bankOf hccc true⟩

end Sys2Proof
end

section
/-! PROOFS. The halt loop (spec/43_sequencer_and_rom.md R189, spec/48_stack_io_control.md R320). -/

namespace Sys2Proof.Machine

theorem exec_hlt (s : State) : exec .hlt s = .next (s.fetched 0x76) := rfl

theorem State.halted_iff (s : State) : s.halted = true ↔ s.step = 0 ∧ s.readByte s.pc = 0x76 := by simp [State.halted]

/-- A halted machine fetches the HLT again. -/
theorem step_of_halted {s : State} (h : s.halted = true) : step s = .next (s.fetched 0x76) := by
  obtain ⟨hstep, hbyte⟩ := s.halted_iff.1 h
  rw [step, if_pos hstep, State.fetchInstr, hbyte]
  exact exec_hlt s

theorem State.halted_fetched {s : State} (h : s.halted = true) (op : Byte) : (s.fetched op).halted = true := by
  obtain ⟨-, hbyte⟩ := s.halted_iff.1 h
  exact (State.halted_iff _).2 ⟨rfl, hbyte⟩

/-- At a boundary a fetch shows in IR and CHAIN only. -/
theorem State.visible_fetched {s : State} (h : s.step = 0) (op : Byte) : (s.fetched op).visible = s.visible := by
  simp [State.visible, State.fetched, h]

theorem State.fetched_fetched (s : State) (op : Byte) : (s.fetched op).fetched op = s.fetched op := rfl

end Sys2Proof.Machine

namespace Sys2Proof

open Machine

/-- Settles O37: a step of a halted machine is a fetch of the HLT, which leaves PC and the visible state, and which a second
fetch leaves as a whole. -/
theorem haltForEver : Obligations.HaltForEver := by
  intro s h
  have hstep := (s.halted_iff.1 h).1
  have hhalted := State.halted_fetched h 0x76
  refine ⟨s.fetched 0x76, step_of_halted h, hhalted, s.fetched_pc _, State.visible_fetched hstep _, ?again⟩
  case again => rw [step_of_halted hhalted, State.fetched_fetched]

end Sys2Proof
end

section
/-! PROOFS. The codec of the instructions (spec/30_encoding.md R71 to R79). Decoder and encoder meet in the shape: an
instruction is a shape with its operand bytes, its encoding is the opcode byte of the shape and as many of those bytes as the
shape is long, and the 256 opcode bytes and the shapes determine each other. -/

namespace Sys2Proof

/-! ### Shapes and opcode bytes -/

/-- The opcode byte of a shape, as the encoder gives it; no operand byte shows in it (`opcode_instr`). -/
def Shape.opcode (sh : Shape) : Byte := (sh.instr 0 0).opcode

@[simp] theorem opcode_shapeOf : ∀ op : Byte, (shapeOf op).opcode = op := by decide

@[simp] theorem shapeOf_opcode_rst : ∀ n : BitVec 3, shapeOf (Shape.rst n).opcode = .rst n := by decide

@[simp] theorem shapeOf_opcode (sh : Shape) : shapeOf sh.opcode = sh := by
  cases sh with
  | movRR dst src => cases dst <;> cases src <;> rfl
  | accR o src => cases o <;> cases src <;> rfl
  | movRM r | movMR r | mviR r | inrR r | dcrR r => cases r <;> rfl
  | accM o | accI o => cases o <;> rfl
  | lxi p | inx p | dcx p | dad p | ldax p | stax p | push p | pop p => cases p <;> rfl
  | jcc cc | ccc cc | rcc cc => cases cc <;> rfl
  | undoc u => cases u <;> rfl
  | rst n => exact shapeOf_opcode_rst n
  | _ => rfl

/-! ### The encoding of a shape with its operand bytes -/

theorem bytesF3_pairOf (op lo hi : Byte) : bytesF3 op (pairOf hi lo) = [op, lo, hi] := by simp [bytesF3]

theorem encode_rst : ∀ n : BitVec 3, encode (.ofRst n) = [(Shape.rst n).opcode] := by decide

/-- R71, R75, R79: the encoding is the opcode byte and the operand bytes that belong to the shape. -/
theorem encode_instr (sh : Shape) (lo hi : Byte) : encode (sh.instr lo hi) = [sh.opcode, lo, hi].take sh.length := by
  cases sh with
  | movRR dst src => cases dst <;> cases src <;> rfl
  | accR o src => cases o <;> cases src <;> rfl
  | movRM r | movMR r | mviR r | inrR r | dcrR r => cases r <;> rfl
  | accM o | accI o => cases o <;> rfl
  | inx p | dcx p | dad p | ldax p | stax p | push p | pop p => cases p <;> rfl
  | lxi p => cases p <;> exact bytesF3_pairOf _ lo hi
  | lda | lhld | shld | sta | jmp | call => exact bytesF3_pairOf _ lo hi
  | jcc cc | ccc cc => cases cc <;> exact bytesF3_pairOf _ lo hi
  | rcc cc => cases cc <;> rfl
  | undoc u => cases u <;> rfl
  | rst n => exact encode_rst n
  | _ => rfl

theorem Shape.one_le_length (sh : Shape) : 1 ≤ sh.length := by cases sh <;> simp [Shape.length]
theorem Shape.length_le_three (sh : Shape) : sh.length ≤ 3 := by cases sh <;> simp [Shape.length]

@[simp] theorem opcode_instr (sh : Shape) (lo hi : Byte) : (sh.instr lo hi).opcode = sh.opcode := by
  have hpos := sh.one_le_length
  rw [Instr.opcode, encode_instr]
  obtain ⟨n, hn⟩ : ∃ n, sh.length = n + 1 := ⟨sh.length - 1, by omega⟩
  rw [hn, List.take_succ_cons, List.headD_cons]

/-- The third byte shows only in an instruction of three bytes. -/
theorem instr_hi_eq {sh : Shape} (h : sh.length ≤ 2) (lo hi hi' : Byte) : sh.instr lo hi = sh.instr lo hi' := by
  cases sh
  case lxi | lda | lhld | shld | sta | jmp | jcc | call | ccc => exact absurd h (by simp [Shape.length])
  all_goals rfl

/-- No operand byte shows in an instruction of one byte. -/
theorem instr_eq_of_length_one {sh : Shape} (h : sh.length = 1) (lo hi lo' hi' : Byte) :
    sh.instr lo hi = sh.instr lo' hi' := by
  cases sh
  case lxi | lda | lhld | shld | sta | jmp | jcc | call | ccc | mviR | mviM | accI | inPort | outPort =>
    exact absurd h (by simp [Shape.length])
  all_goals rfl

theorem exists_pairOf (v : Addr) : ∃ hi lo, v = pairOf hi lo := ⟨hiByte v, loByte v, (pairOf_hiByte_loByte v).symm⟩

/-- Every instruction is a shape with operand bytes: those of its encoding. -/
theorem instr_shapeOf_opcode (i : Instr) :
    (shapeOf i.opcode).instr ((encode i).getD 1 0) ((encode i).getD 2 0) = i := by
  cases i
  case lxiB v | lxiD v | lxiH v | lxiSp v | shld v | lhld v | sta v | lda v | jmp v | jnz v | jz v | jnc v | jc v | jpo v
    | jpe v | jp v | jm v | call v | cnz v | cz v | cnc v | cc v | cpo v | cpe v | cp v | cm v =>
    obtain ⟨hi, lo, rfl⟩ := exists_pairOf v
    simp only [Instr.opcode, encode, bytesF3_pairOf, List.headD_cons]
    rfl
  case mviB | mviC | mviD | mviE | mviH | mviL | mviA | mviM | adi | aci | sui | sbi | ani | xri | ori | cpi | inPort
    | outPort =>
    simp only [Instr.opcode, encode, List.headD_cons]
    rfl
  all_goals rfl

theorem exists_instr (i : Instr) : ∃ sh lo hi, i = Shape.instr sh lo hi := ⟨_, _, _, (instr_shapeOf_opcode i).symm⟩

/-! ### The decoder on enough bytes -/

theorem Shape.length_cases (sh : Shape) : sh.length = 1 ∨ sh.length = 2 ∨ sh.length = 3 := by
  have hpos := sh.one_le_length
  have hle := sh.length_le_three
  omega

/-- Three bytes are enough: the decoder takes as many as the opcode byte says and leaves the others (R71, R79). -/
theorem decode_cons_cons_cons (op lo hi : Byte) (rest : List Byte) :
    decode (op :: lo :: hi :: rest) = .ok (decode3 op lo hi, (op :: lo :: hi :: rest).drop (instrLength op)) := by
  obtain hlen | hlen | hlen := (shapeOf op).length_cases
  · simp only [decode, hlen, instrLength, decode3, instr_eq_of_length_one hlen 0 0 lo hi, List.drop_succ_cons, List.drop_zero]
  · simp only [decode, hlen, instrLength, decode3, instr_hi_eq hlen.le lo 0 hi, List.drop_succ_cons, List.drop_zero]
  · simp only [decode, hlen, instrLength, List.drop_succ_cons, List.drop_zero]

/-- Settles O1. The bytes of a shape are its opcode byte and as many operand bytes as the decoder takes. -/
theorem decodeAfterEncode : Obligations.DecodeAfterEncode := by
  intro i rest
  obtain ⟨sh, lo, hi, rfl⟩ := exists_instr i
  rw [encode_instr]
  obtain hlen | hlen | hlen := sh.length_cases
  · simpa [hlen, decode, decode3] using instr_eq_of_length_one hlen 0 0 lo hi
  · simpa [hlen, decode, decode3] using instr_hi_eq hlen.le lo 0 hi
  · simp [hlen, decode, decode3]

/-- Settles O2: the instruction of a byte's shape has that byte as its opcode. -/
theorem encodeAfterDecode : Obligations.EncodeAfterDecode := by
  intro op lo hi
  rw [decode3, encode_instr, opcode_shapeOf, instrLength]

/-- Settles O3, byte by byte: there are 256. -/
theorem opcodeLengths : Obligations.OpcodeLengths := by
  unfold Obligations.OpcodeLengths
  decide

/-- Settles O4: the ten words, evaluated. -/
theorem sampleWordsDecode : Obligations.SampleWordsDecode := by
  unfold Obligations.SampleWordsDecode
  decide

end Sys2Proof
end

section
/-! PROOFS. The 256 meanings by shape: what an instruction does depends on its shape and its operand bytes, so that every
statement about all instructions is a case split over the shapes. -/

namespace Sys2Proof

open Machine

/-! ### The effect of a shape -/

/-- The state that the instruction of a shape leads to, as named updates of the record (the net effects of R200 to R322).
`exec_instr` ties it to `exec`. -/
def Shape.effect (sh : Shape) (lo hi : Byte) (s : State) : State :=
  match sh with
  | .movRR dst src => ((s.opening sh.opcode 1).setReg dst (s.getReg src)).withChain false
  | .movRM dst => ((s.opening sh.opcode 1).setReg dst (s.readByte s.hl)).withChain false
  | .movMR src => ((s.opening sh.opcode 1).writeByte s.hl (s.getReg src)).withChain false
  | .mviR dst => (s.opening sh.opcode 2).setReg dst lo
  | .mviM => (((s.opening sh.opcode 2).setMAL lo).writeByte s.hl lo).withChain false
  | .lxi p => (s.opening sh.opcode 3).setPair p (pairOf hi lo)
  | .lda => (((s.opening sh.opcode 3).setMA (pairOf hi lo)).setReg .a (s.readByte (pairOf hi lo))).withChain false
  | .lhld => (((s.opening sh.opcode 3).setMA (pairOf hi lo + 1)).setHL (s.readWord (pairOf hi lo))).withChain false
  | .shld =>
    ((((s.opening sh.opcode 3).setMA (pairOf hi lo + 1)).writeByte (pairOf hi lo) s.l).writeByte (pairOf hi lo + 1)
      s.h).withChain false
  | .sta => (((s.opening sh.opcode 3).setMA (pairOf hi lo)).writeByte (pairOf hi lo) s.a).withChain false
  | .ldax p =>
    (((s.opening sh.opcode 1).setMA (s.getPair p.pair)).setReg .a (s.readByte (s.getPair p.pair))).withChain false
  | .stax p => (((s.opening sh.opcode 1).setMA (s.getPair p.pair)).writeByte (s.getPair p.pair) s.a).withChain false
  | .xchg => (((s.opening sh.opcode 1).setHL s.de).setDE s.hl).withChain false
  | .accR o src => (s.opening sh.opcode 1).accumulate o (s.getReg src)
  | .accM o => (s.opening sh.opcode 1).accumulate o (s.readByte s.hl)
  | .accI o => ((s.opening sh.opcode 2).accumulate o lo).withChain (s.pc + 2 == 0)
  | .inrR dst =>
    (((s.opening sh.opcode 1).setReg dst (s.getReg dst + 1)).captureZS (s.getReg dst + 1)).withChain
      (s.getReg dst + 1 == 0x00)
  | .inrM =>
    ((((s.opening sh.opcode 1).setMAL (s.readByte s.hl + 1)).captureZS (s.readByte s.hl + 1)).writeByte s.hl
      (s.readByte s.hl + 1)).withChain false
  | .dcrR dst =>
    (((s.opening sh.opcode 1).setReg dst (s.getReg dst - 1)).captureZS (s.getReg dst - 1)).withChain
      (s.getReg dst - 1 == 0xFF)
  | .dcrM =>
    ((((s.opening sh.opcode 1).setMAL (s.readByte s.hl - 1)).captureZS (s.readByte s.hl - 1)).writeByte s.hl
      (s.readByte s.hl - 1)).withChain false
  | .inx p => ((s.opening sh.opcode 1).setPair p (s.getPair p + 1)).withChain (s.getPair p + 1 == 0x0000)
  | .dcx p => ((s.opening sh.opcode 1).setPair p (s.getPair p - 1)).withChain (s.getPair p - 1 == 0xFFFF)
  | .dad p =>
    ((((s.opening sh.opcode 1).setMAL s.a).setHL ((s.hl.setWidth 17 + (s.getPair p).setWidth 17).setWidth 16)).withCY
      ((s.hl.setWidth 17 + (s.getPair p).setWidth 17).getLsbD 16)).withChain false
  | .rlc =>
    (((s.opening sh.opcode 1).setReg .a (s.a.extractLsb' 0 7 ++ BitVec.ofBool (s.a.getLsbD 7))).withCY
      (s.a.getLsbD 7)).withChain false
  | .rrc => (s.opening sh.opcode 1).rotateA .rrc
  | .ral => (s.opening sh.opcode 1).rotateA .adc
  | .rar => (s.opening sh.opcode 1).rotateA .rar
  | .cma => (((s.opening sh.opcode 1).setMAL 0xFF).setReg .a (~~~s.a)).withChain false
  | .stc => ((s.opening sh.opcode 1).withCY true).withChain false
  | .cmc => ((s.opening sh.opcode 1).withCY (!s.cy)).withChain false
  | .jmp => (s.fetched sh.opcode).jumpTo (pairOf hi lo)
  | .jcc cc => if s.holds cc then (s.fetched sh.opcode).jumpTo (pairOf hi lo) else s.opening sh.opcode 3
  | .call => (s.opening sh.opcode 3).callTo (pairOf hi lo)
  | .ccc cc => if s.holds cc then (s.opening sh.opcode 3).callTo (pairOf hi lo) else s.opening sh.opcode 3
  | .ret => (s.fetched sh.opcode).returnFrom
  | .rcc cc => if s.holds cc then (s.fetched sh.opcode).returnFrom else s.opening sh.opcode 1
  | .rst _ => (s.opening sh.opcode 1).restart
  | .pchl => (s.fetched sh.opcode).setPC s.hl
  | .push p => ((s.opening sh.opcode 1).pushWord (s.getPair p.pair)).withChain false
  | .pushPsw => ((s.opening sh.opcode 1).pushWord (pairOf s.a s.flagByte)).withChain false
  | .pop p => ((s.opening sh.opcode 1).setPair p.pair s.topWord).dropWord
  | .popPsw => (((s.opening sh.opcode 1).setFlagByte (loByte s.topWord)).setReg .a (hiByte s.topWord)).dropWord
  | .xthl =>
    (((((s.opening sh.opcode 1).writeByte s.sp s.l).writeByte (s.sp + 1) s.h).setHL s.topWord).setMAL
      (hiByte s.topWord)).withChain (s.sp == 0xFFFF)
  | .sphl => ((s.opening sh.opcode 1).setSP s.hl).withChain false
  | .inPort | .outPort => s.opening sh.opcode 2
  | .ei => ((s.opening sh.opcode 1).withInte true).withChain false
  | .di => ((s.opening sh.opcode 1).withInte false).withChain false
  | .hlt => s.fetched sh.opcode
  | .daa | .nop | .undoc _ => s.opening sh.opcode 1

theorem exec_rst (s : State) : ∀ n : BitVec 3, exec (.ofRst n) s = .next ((s.opening (Shape.rst n).opcode 1).restart)
  | 0 | 1 | 2 | 3 | 4 | 5 | 6 | 7 => rfl

/-- Every instruction completes, with the effect of its shape. -/
theorem exec_instr (sh : Shape) (lo hi : Byte) (s : State) : exec (sh.instr lo hi) s = .next (sh.effect lo hi s) := by
  cases sh with
  | movRR dst src => cases dst <;> cases src <;> rfl
  | accR o src => cases o <;> cases src <;> rfl
  | movRM r | movMR r | mviR r | inrR r | dcrR r => cases r <;> rfl
  | accM o | accI o => cases o <;> rfl
  | lxi p | inx p | dcx p | dad p | ldax p | stax p | push p | pop p => cases p <;> rfl
  | jcc cc | ccc cc | rcc cc => cases cc <;> rfl
  | undoc u => cases u <;> rfl
  | rst n => exact exec_rst s n
  | _ => rfl

end Sys2Proof

namespace Sys2Proof.Machine

variable (s : State)

/-! ### The shared operations as named updates -/

@[simp] theorem State.getReg_setBC (v : Addr) (r : Reg) :
    (s.setBC v).getReg r = if r = .b then hiByte v else if r = .c then loByte v else s.getReg r := by cases r <;> rfl
@[simp] theorem State.getReg_setDE (v : Addr) (r : Reg) :
    (s.setDE v).getReg r = if r = .d then hiByte v else if r = .e then loByte v else s.getReg r := by cases r <;> rfl
@[simp] theorem State.getReg_setHL (v : Addr) (r : Reg) :
    (s.setHL v).getReg r = if r = .h then hiByte v else if r = .l then loByte v else s.getReg r := by cases r <;> rfl

@[simp] theorem State.rotateA_updates (op : AluOp) :
    s.rotateA op =
      ((s.setReg .a (alu op s.a s.a s.cy s.chain).1).withCY (alu op s.a s.a s.cy s.chain).2).withChain
        (alu op s.a s.a s.cy s.chain).2 := rfl
@[simp] theorem State.accumulate_updates (op : AccOp) (x : Byte) :
    s.accumulate op x =
      (((s.setReg .a (if op = .cmp then s.a else (alu op.alu s.a x s.cy s.chain).1)).captureZS
        (alu op.alu s.a x s.cy s.chain).1).withCY (alu op.alu s.a x s.cy s.chain).2).withChain
        (alu op.alu s.a x s.cy s.chain).2 := by
  cases op <;> rfl
@[simp] theorem State.pushWord_updates (v : Addr) :
    s.pushWord v = ((s.writeByte (s.sp - 1) (hiByte v)).writeByte (s.sp - 2) (loByte v)).setSP (s.sp - 2) := rfl
@[simp] theorem State.dropWord_updates : s.dropWord = (s.setSP (s.sp + 2)).withChain (s.sp + 2 == 0) := rfl
@[simp] theorem State.jumpTo_updates (v : Addr) :
    s.jumpTo v = ((s.setMAL (loByte v)).setPC v).withChain false := rfl
@[simp] theorem State.callTo_updates (v : Addr) :
    s.callTo v = (((s.pushWord s.pc).setMA v).setPC v).withChain false := rfl
@[simp] theorem State.returnFrom_updates : s.returnFrom = (s.setPC s.topWord).dropWord := rfl
@[simp] theorem State.restart_updates :
    s.restart = ((s.pushWord s.pc).setPC (restartVector s.ir)).withChain false := rfl

/-! ### The boundary after an instruction -/

@[simp] theorem effect_step (sh : Shape) (lo hi : Byte) : (sh.effect lo hi s).step = 0 := by
  cases sh
  case lxi p | inx p | dcx p => cases p <;> rfl
  case jcc cc | ccc cc | rcc cc => cases h : s.holds cc <;> simp [Shape.effect, h]
  all_goals simp [Shape.effect]

@[simp] theorem effect_ir (sh : Shape) (lo hi : Byte) : (sh.effect lo hi s).ir = sh.opcode := by
  cases sh
  case jcc cc | ccc cc | rcc cc => cases h : s.holds cc <;> simp [Shape.effect, h]
  all_goals simp [Shape.effect]

/-! ### The flags and INTE -/

theorem effect_inte (sh : Shape) (lo hi : Byte) :
    (sh.effect lo hi s).inte = if sh = .ei then true else if sh = .di then false else s.inte := by
  cases sh
  case jcc cc | ccc cc | rcc cc => cases h : s.holds cc <;> simp [Shape.effect, h]
  all_goals simp [Shape.effect]

/-- R18: outside the list of its writers CY is kept. -/
theorem effect_cy {sh : Shape} (h : writesCarry sh = false) (lo hi : Byte) : (sh.effect lo hi s).cy = s.cy := by
  cases sh
  case accR | accM | accI | rlc | rrc | ral | rar | dad | stc | cmc | popPsw => cases h
  case jcc cc | ccc cc | rcc cc => cases hcc : s.holds cc <;> simp [Shape.effect, hcc]
  all_goals simp [Shape.effect]

/-- R19: outside the list of their writers Z and S are kept. -/
theorem effect_zs {sh : Shape} (h : writesZS sh = false) (lo hi : Byte) :
    (sh.effect lo hi s).zf = s.zf ∧ (sh.effect lo hi s).sf = s.sf := by
  cases sh
  case accR | accM | accI | inrR | inrM | dcrR | dcrM | popPsw => cases h
  case jcc cc | ccc cc | rcc cc => cases hcc : s.holds cc <;> simp [Shape.effect, hcc]
  all_goals simp [Shape.effect]

theorem effect_keepsFlags {sh : Shape} (hcy : writesCarry sh = false) (hzs : writesZS sh = false) (lo hi : Byte) :
    KeepsFlags s (sh.effect lo hi s) :=
  ⟨effect_cy s hcy lo hi, effect_zs s hzs lo hi⟩

/-! ### The registers -/

/-- Every register but the destinations of its shape is kept. -/
theorem effect_keepsRegs (sh : Shape) (lo hi : Byte) : KeepsRegs s (sh.effect lo hi s) (destinations sh) := by
  intro r hr
  cases sh
  case jcc cc | ccc cc | rcc cc => cases hcc : s.holds cc <;> simp [Shape.effect, hcc]
  case lxi p | inx p | dcx p | pop p =>
    cases p <;> simp [destinations] at hr <;> simp [Shape.effect, State.setPair, StackPair.pair, hr]
  case accR o _ | accM o | accI o =>
    by_cases hcmp : o = .cmp
    · simp only [Shape.effect, State.accumulate_updates, hcmp]
      by_cases ha : Reg.a = r
      · subst ha; simp; rfl
      · simp [ha]
    · have hne : Reg.a ≠ r := fun h => hr (by simp [destinations, hcmp, h])
      simp [Shape.effect, hne]
  case lda | ldax | rlc | rrc | ral | rar | cma | popPsw =>
    have hne : Reg.a ≠ r := fun h => hr (by simp [destinations, h])
    simp [Shape.effect, hne]
  case movRR dst src | movRM dst | mviR dst | inrR dst | dcrR dst =>
    have hne : dst ≠ r := fun h => hr (by simp [destinations, h])
    simp [Shape.effect, hne]
  all_goals simp [destinations] at hr; simp [Shape.effect, hr]

/-! ### Memory -/

theorem operand16_instr {sh : Shape} (h : sh.length = 3) (lo hi : Byte) : operand16 (sh.instr lo hi) = pairOf hi lo := by
  simp [operand16, encode_instr, h]

/-- Every byte of memory but those that the instruction stores to is kept. -/
theorem effect_keepsMemory (sh : Shape) (lo hi : Byte) :
    KeepsMemory s (sh.effect lo hi s) (storeAddresses (sh.instr lo hi) s) := by
  intro x hx
  rw [storeAddresses, opcode_instr, shapeOf_opcode] at hx
  cases sh
  case sta | shld =>
    simp [operand16_instr (sh := .sta) rfl, operand16_instr (sh := .shld) rfl] at hx
    simp [Shape.effect, State.readByte_writeByte, hx]
  case ccc cc =>
    cases hcc : s.holds cc <;> simp [hcc] at hx <;> simp [Shape.effect, State.readByte_writeByte, hcc, hx]
  case jcc cc | rcc cc => cases hcc : s.holds cc <;> simp [Shape.effect, hcc]
  all_goals simp at hx; simp [Shape.effect, State.readByte_writeByte, hx]

/-- Every instruction keeps the canonical form of memory. -/
theorem effect_wf (h : s.mem.wf) (sh : Shape) (lo hi : Byte) : (sh.effect lo hi s).mem.wf := by
  cases sh
  case movMR | mviM | sta | stax | inrM | dcrM => exact Memory.wf_write h _ _
  case shld | call | rst | push | pushPsw | xthl => exact Memory.wf_write (Memory.wf_write h _ _) _ _
  case ccc cc =>
    cases hcc : s.holds cc with
    | true =>
      simp only [Shape.effect, hcc, if_true]
      exact Memory.wf_write (Memory.wf_write h _ _) _ _
    | false =>
      simp only [Shape.effect, hcc, Bool.false_eq_true, if_false]
      exact h
  case jcc cc | rcc cc => cases hcc : s.holds cc <;> simpa [Shape.effect, hcc] using h
  all_goals simpa [Shape.effect] using h

/-! ### The scratch registers -/

/-- The state with other values in MAH, MAL, IR and CHAIN. -/
def State.withScratch (mah mal ir : Byte) (chain : Bool) : State := { s with mah, mal, ir, chain }

/-- Two states with one visible part differ in the scratch only. -/
theorem State.eq_withScratch_of_visible_eq {s s' : State} (h : s.visible = s'.visible) :
    s' = s.withScratch s'.mah s'.mal s'.ir s'.chain := by
  cases s
  cases s'
  simpa [State.visible, State.withScratch, eq_comm] using h

section scratch

variable (mah mal ir : Byte) (chain : Bool)

theorem State.holds_withScratch (cc : Cond) : (s.withScratch mah mal ir chain).holds cc = s.holds cc := by cases cc <;> rfl

/-- R365: no meaning reads the scratch that it finds. -/
theorem effect_withScratch_visible (sh : Shape) (lo hi : Byte) :
    (sh.effect lo hi (s.withScratch mah mal ir chain)).visible = (sh.effect lo hi s).visible := by
  cases sh with
  | movRR dst src => cases dst <;> cases src <;> rfl
  | movRM r | movMR r | mviR r | inrR r | dcrR r => cases r <;> rfl
  | accR o src => cases o <;> cases src <;> rfl
  | accM o | accI o => cases o <;> rfl
  | lxi p | inx p | dcx p | dad p | ldax p | stax p | push p | pop p => cases p <;> rfl
  | jcc cc | ccc cc | rcc cc =>
    simp only [Shape.effect, State.holds_withScratch]
    cases s.holds cc <;> rfl
  | _ => rfl

end scratch

end Sys2Proof.Machine

namespace Sys2Proof.Machine

/-! ### The step at a boundary -/

/-- The state that the next boundary has, from a boundary. -/
def State.afterInstr (s : State) : State :=
  (shapeOf (s.readByte s.pc)).effect (s.readByte (s.pc + 1)) (s.readByte (s.pc + 2)) s

theorem step_of_boundary {s : State} (h : s.step = 0) : step s = .next s.afterInstr := by
  rw [step, if_pos h, State.fetchInstr, decode3, exec_instr, State.afterInstr]

end Sys2Proof.Machine

namespace Sys2Proof

open Machine

theorem shape_eq_of_instr_eq {sh : Shape} {lo hi : Byte} {i : Instr} (h : sh.instr lo hi = i) :
    sh = shapeOf i.opcode := by
  rw [← h, opcode_instr, shapeOf_opcode]

theorem instr_eq_ei_iff (sh : Shape) (lo hi : Byte) : sh.instr lo hi = .ei ↔ sh = .ei :=
  ⟨shape_eq_of_instr_eq, fun h => h ▸ rfl⟩

theorem instr_eq_di_iff (sh : Shape) (lo hi : Byte) : sh.instr lo hi = .di ↔ sh = .di :=
  ⟨shape_eq_of_instr_eq, fun h => h ▸ rfl⟩

/-- An instruction that answers a state is a shape with operand bytes, and the state is its effect. -/
theorem effect_of_exec {i : Instr} {s t : State} (h : exec i s = .next t) :
    ∃ sh lo hi, i = Shape.instr sh lo hi ∧ t = sh.effect lo hi s := by
  obtain ⟨sh, lo, hi, rfl⟩ := exists_instr i
  rw [exec_instr] at h
  exact ⟨sh, lo, hi, rfl, (Host.Outcome.next.inj h).symm⟩

/-- Settles O30. A step from a boundary is the effect of a shape, which ends at a boundary and keeps the canonical form. -/
theorem boundaryInvariant : Obligations.BoundaryInvariant := fun s hinv =>
  ⟨s.afterInstr, step_of_boundary hinv.1, effect_step s _ _ _, effect_wf s hinv.2 _ _ _⟩

/-- Settles O31. -/
theorem resetInvariant : Obligations.ResetInvariant := ⟨rfl, Memory.wf_reset⟩

/-- Settles O36: both states fetch the same bytes, and no meaning reads the scratch that it finds. -/
theorem scratchUnobservable : Obligations.ScratchUnobservable := by
  intro s s' hstep hvisible
  rw [State.eq_withScratch_of_visible_eq hvisible]
  refine ⟨_, _, step_of_boundary hstep, step_of_boundary (s := s.withScratch _ _ _ _) hstep, ?_⟩
  exact (effect_withScratch_visible s ..).symm

/-- Settles O33: EI and DI are the shapes that write INTE. -/
theorem inteWriters : Obligations.InteWriters := by
  intro i s t h
  obtain ⟨sh, lo, hi, rfl, rfl⟩ := effect_of_exec h
  simp only [effect_inte, instr_eq_ei_iff, instr_eq_di_iff]

/-- Settles O34. -/
theorem flagWriters : Obligations.FlagWriters := by
  intro i s t h
  obtain ⟨sh, lo, hi, rfl, rfl⟩ := effect_of_exec h
  rw [opcode_instr, shapeOf_opcode]
  exact ⟨fun hcy => effect_cy s hcy lo hi, fun hzs => effect_zs s hzs lo hi⟩

/-- Settles O35. -/
theorem instructionFrame : Obligations.InstructionFrame := by
  intro i s t h
  obtain ⟨sh, lo, hi, rfl, rfl⟩ := effect_of_exec h
  rw [opcode_instr, shapeOf_opcode]
  exact ⟨effect_keepsMemory s sh lo hi, effect_keepsRegs s sh lo hi⟩

/-- Settles O28: the decoder takes its bytes from the three at PC. -/
theorem stepRunsDecoded : Obligations.StepRunsDecoded := by
  intro s i rest hstep hdecode
  rw [State.fetchBytes, decode_cons_cons_cons] at hdecode
  obtain ⟨rfl, -⟩ := Prod.mk.inj (Except.ok.inj hdecode)
  rw [step, if_pos hstep, State.fetchInstr]

theorem decode_of_decodeTableWord {nbits w : Nat} {i : Instr} (h : decodeTableWord nbits w = some i) :
    ∃ rest, decode (tableBytes nbits w) = .ok (i, rest) := by
  unfold decodeTableWord at h
  split at h
  next j rest hdecode => exact ⟨rest, by rw [hdecode, Option.some.inj h]⟩
  next => cases h

section placed

variable (s : State) (nbits w : Nat)

theorem withFetchWord_eq : s.withFetchWord nbits w = { s with step := 0, mem := (s.withFetchWord nbits w).mem } := by
  rw [State.withFetchWord, State.placeWord, State.placeBytes_eq]

/-- The memory with a placed word: its three bytes from PC on. -/
theorem readByte_withFetchWord (x : Addr) :
    (s.withFetchWord nbits w).readByte x =
      if x = s.pc + 2 then byteOfNat (w % 2 ^ nbits) 2 else if x = s.pc + 1 then byteOfNat (w % 2 ^ nbits) 1
      else if x = s.pc then byteOfNat (w % 2 ^ nbits) 0 else s.readByte x := by
  have hnext : s.pc + 2 = s.pc + 1 + 1 := by bv_omega
  rw [hnext]
  exact s.placeBytes_three s.pc x _ _ _

/-- The bytes of a placed word are those that the next step fetches. -/
theorem fetchBytes_withFetchWord : (s.withFetchWord nbits w).fetchBytes = tableBytes nbits w := by
  have hpc : (s.withFetchWord nbits w).pc = s.pc := by rw [withFetchWord_eq]; rfl
  have hfirst : s.pc ≠ s.pc + 2 ∧ s.pc ≠ s.pc + 1 := by bv_omega
  have hsecond : s.pc + 1 ≠ s.pc + 2 := by bv_omega
  simp only [State.fetchBytes, hpc, readByte_withFetchWord, hfirst, hsecond, if_true, if_false, tableBytes]

end placed

/-- Settles O29: the placed bytes are those that the next step decodes. -/
theorem placedWordRuns : Obligations.PlacedWordRuns := by
  intro s nbits w i hdecode
  refine ⟨?step, withFetchWord_eq s nbits w, fun x hx => ?memory⟩
  case step =>
    obtain ⟨rest, hrest⟩ := decode_of_decodeTableWord hdecode
    exact stepRunsDecoded _ i rest rfl (by rwa [fetchBytes_withFetchWord])
  case memory =>
    simp only [List.mem_cons, List.not_mem_nil, or_false, not_or] at hx
    simp only [readByte_withFetchWord, hx, if_false]

end Sys2Proof
end

section
/-! PROOFS. The ALU (spec/40_alu_operations.md R100 to R118): results and carry-outs as numbers, bit by bit, and the
identities between the operations. The three sums share their 9-bit intermediate. -/

namespace Sys2Proof.Machine

/-! ### Bytes and pairs as numbers -/

theorem beq_eq_decide_toNat {n : Nat} (x y : BitVec n) : (x == y) = decide (x.toNat = y.toNat) := by
  rw [Bool.eq_iff_iff, beq_iff_eq, decide_eq_true_iff, BitVec.toNat_inj]

theorem toNat_append_ofBool {n : Nat} (x : BitVec n) (v : Bool) : (x ++ BitVec.ofBool v).toNat = 2 * x.toNat + v.toNat := by
  have hv : v.toNat < 2 ^ 1 := v.toNat_lt
  rw [BitVec.toNat_append, BitVec.toNat_ofBool, ← Nat.shiftLeft_add_eq_or_of_lt hv, Nat.shiftLeft_eq]
  omega

theorem getLsbD_seven (x : Byte) : x.getLsbD 7 = decide (128 ≤ x.toNat) := by
  rw [← BitVec.msb_eq_getLsbD_last, BitVec.msb_eq_decide]

theorem pairOf_toNat (hi lo : Byte) : (pairOf hi lo).toNat = 256 * hi.toNat + lo.toNat := by
  rw [pairOf, BitVec.toNat_append, ← Nat.shiftLeft_add_eq_or_of_lt lo.isLt, Nat.shiftLeft_eq]
  omega

theorem hiByte_toNat (v : Addr) : (hiByte v).toNat = v.toNat / 256 := by
  have hv := v.isLt
  rw [hiByte, BitVec.extractLsb'_toNat, Nat.shiftRight_eq_div_pow]
  omega

theorem loByte_toNat (v : Addr) : (loByte v).toNat = v.toNat % 256 := by
  rw [loByte, BitVec.extractLsb'_toNat, Nat.shiftRight_zero]

/-! ### The 9-bit intermediate -/

@[simp] theorem carry9_toNat (v : Bool) : (carry9 v).toNat = v.toNat := by cases v <;> rfl

@[simp] theorem setWidth_ofBool_toNat (v : Bool) : ((BitVec.ofBool v).setWidth 8).toNat = v.toNat := by cases v <;> rfl

theorem split9_fst_toNat (t : BitVec 9) : (split9 t).1.toNat = t.toNat % 256 := by simp [split9]

theorem split9_snd (t : BitVec 9) : (split9 t).2 = decide (256 ≤ t.toNat) := by
  rw [split9, ← BitVec.msb_eq_getLsbD_last, BitVec.msb_eq_decide]

/-! ### The results in the integers -/

section numbers

variable (a x : Byte) (cy ch : Bool)

theorem alu_incl_toNat : (alu .incl a x cy ch).1.toNat = (x.toNat + 1) % 256 := BitVec.toNat_add x 1

theorem alu_incl_carry : (alu .incl a x cy ch).2 = decide (x.toNat = 255) := beq_eq_decide_toNat x 0xFF

theorem alu_inch_toNat : (alu .inch a x cy ch).1.toNat = (x.toNat + ch.toNat) % 256 := by
  have hch := ch.toNat_lt
  simp only [alu, split9_fst_toNat, BitVec.toNat_add, BitVec.toNat_setWidth, carry9_toNat]
  omega

theorem alu_inch_carry : (alu .inch a x cy ch).2 = decide (256 ≤ x.toNat + ch.toNat) := by
  have hch := ch.toNat_lt
  simp only [alu, split9_snd, BitVec.toNat_add, BitVec.toNat_setWidth, carry9_toNat]
  rw [decide_eq_decide]
  omega

theorem alu_decl_toNat : (alu .decl a x cy ch).1.toNat = (x.toNat + 255) % 256 := by
  have hone : (1 : Byte).toNat = 1 := rfl
  rw [alu, BitVec.toNat_sub, hone]
  omega

theorem alu_decl_borrow : (alu .decl a x cy ch).2 = decide (x.toNat = 0) := beq_eq_decide_toNat x 0x00

theorem alu_dech_toNat : (alu .dech a x cy ch).1.toNat = (x.toNat + 256 - ch.toNat) % 256 := by
  have hch := ch.toNat_lt
  simp only [alu, BitVec.toNat_sub, setWidth_ofBool_toNat]
  omega

theorem alu_dech_borrow : (alu .dech a x cy ch).2 = decide (x.toNat < ch.toNat) := by
  rw [alu, beq_eq_decide_toNat]
  cases ch <;> simp

theorem alu_add_toNat : (alu .add a x cy ch).1.toNat = (a.toNat + x.toNat) % 256 := by
  simp only [alu, split9_fst_toNat, BitVec.toNat_add, BitVec.toNat_setWidth]
  omega

theorem alu_add_carry : (alu .add a x cy ch).2 = decide (256 ≤ a.toNat + x.toNat) := by
  simp only [alu, split9_snd, BitVec.toNat_add, BitVec.toNat_setWidth]
  rw [decide_eq_decide]
  omega

theorem alu_adc_toNat : (alu .adc a x cy ch).1.toNat = (a.toNat + x.toNat + cy.toNat) % 256 := by
  have hcy := cy.toNat_lt
  simp only [alu, split9_fst_toNat, BitVec.toNat_add, BitVec.toNat_setWidth, carry9_toNat]
  omega

theorem alu_adc_carry : (alu .adc a x cy ch).2 = decide (256 ≤ a.toNat + x.toNat + cy.toNat) := by
  have hcy := cy.toNat_lt
  simp only [alu, split9_snd, BitVec.toNat_add, BitVec.toNat_setWidth, carry9_toNat]
  rw [decide_eq_decide]
  omega

theorem alu_sub_toNat : (alu .sub a x cy ch).1.toNat = (a.toNat + 256 - x.toNat) % 256 := by
  simp only [alu, BitVec.toNat_sub]
  omega

theorem alu_sub_borrow : (alu .sub a x cy ch).2 = decide (a.toNat < x.toNat) := rfl

theorem alu_sbb_toNat : (alu .sbb a x cy ch).1.toNat = (a.toNat + 512 - (x.toNat + cy.toNat)) % 256 := by
  have hcy := cy.toNat_lt
  simp only [alu, BitVec.toNat_sub, setWidth_ofBool_toNat]
  omega

theorem alu_sbb_borrow : (alu .sbb a x cy ch).2 = decide (a.toNat < x.toNat + cy.toNat) := rfl

theorem alu_cmp_eq_sub : alu .cmp a x cy ch = alu .sub a x cy ch := rfl

end numbers

/-! ### The results bit by bit -/

/-- A byte shifted right with `top` entering at bit 7 (R107, R108). -/
theorem getLsbD_shiftIn (top : Bool) (x : Byte) {i : Nat} (hi : i < 8) :
    (BitVec.ofBool top ++ x.extractLsb' 1 7).getLsbD i = if i = 7 then top else x.getLsbD (i + 1) := by
  rw [BitVec.getLsbD_append, BitVec.getLsbD_extractLsb']
  by_cases h : i = 7
  · subst h; simp
  · have hlt : i < 7 := by omega
    simp [h, hlt, Nat.add_comm]

/-- A byte rotated left: its low seven bits move up, bit 7 enters at bit 0. -/
theorem rotateLeft_one (x : Byte) : x.rotateLeft 1 = x.extractLsb' 0 7 ++ BitVec.ofBool (x.getLsbD 7) := by
  refine BitVec.eq_of_getLsbD_eq fun i hi => ?_
  rw [BitVec.getLsbD_rotateLeft, BitVec.getLsbD_append, BitVec.getLsbD_ofBool, BitVec.getLsbD_extractLsb']
  by_cases h : i = 0
  · subst h; simp
  · have hpos : ¬i < 1 := by omega
    have hlt : i - 1 < 7 := by omega
    simp [hpos, hi, hlt]

/-! ### The identities -/

section identities

variable (a : Byte) (cy ch : Bool)

/-- Rotate left through carry. -/
theorem alu_adc_self : alu .adc a a cy ch = (a.extractLsb' 0 7 ++ BitVec.ofBool cy, a.getLsbD 7) := by
  refine Prod.ext (BitVec.eq_of_toNat_eq ?result) ?carry
  case result =>
    rw [alu_adc_toNat, toNat_append_ofBool, BitVec.extractLsb'_toNat, Nat.shiftRight_zero]
    have hcy := cy.toNat_lt
    omega
  case carry =>
    rw [alu_adc_carry, getLsbD_seven, decide_eq_decide]
    have hcy := cy.toNat_lt
    omega

theorem alu_add_self_carry : (alu .add a a cy ch).2 = a.getLsbD 7 := by
  rw [alu_add_carry, getLsbD_seven, decide_eq_decide]
  omega

/-- The circular rotate: the bit that leaves the sum enters again as the carry of the next word. -/
theorem alu_inch_add_self (b : Byte) (cy' : Bool) :
    (alu .inch b (alu .add a a cy ch).1 cy' (alu .add a a cy ch).2).1 = a.rotateLeft 1 := by
  refine BitVec.eq_of_toNat_eq ?_
  rw [alu_inch_toNat, alu_add_toNat, alu_add_self_carry, rotateLeft_one, toNat_append_ofBool, BitVec.extractLsb'_toNat,
    Nat.shiftRight_zero]
  have hbit := (a.getLsbD 7).toNat_lt
  omega

end identities

section halves

variable (v u : Addr) (a b : Byte) (cy ch cy' ch' : Bool)

theorem toNat_decide (p : Prop) [Decidable p] : (decide p).toNat = if p then 1 else 0 := by
  rw [Bool.toNat, Bool.cond_decide]

/-- The 16-bit increment, low half first. -/
theorem pairOf_inch_incl :
    pairOf (alu .inch b (hiByte v) cy' (alu .incl a (loByte v) cy ch).2).1 (alu .incl a (loByte v) cy ch).1 = v + 1 := by
  have hone : (1 : Addr).toNat = 1 := rfl
  have hv := v.isLt
  refine BitVec.eq_of_toNat_eq ?_
  rw [pairOf_toNat, alu_inch_toNat, alu_incl_toNat, alu_incl_carry, hiByte_toNat, loByte_toNat, BitVec.toNat_add, hone,
    toNat_decide]
  split <;> omega

theorem inch_incl_carry :
    (alu .inch b (hiByte v) cy' (alu .incl a (loByte v) cy ch).2).2 = (v == 0xFFFF) := by
  have hv := v.isLt
  have htop : (0xFFFF : Addr).toNat = 65535 := rfl
  rw [alu_inch_carry, alu_incl_carry, hiByte_toNat, loByte_toNat, beq_eq_decide_toNat, htop, toNat_decide,
    decide_eq_decide]
  split <;> omega

/-- The 16-bit decrement, low half first. -/
theorem pairOf_dech_decl :
    pairOf (alu .dech b (hiByte v) cy' (alu .decl a (loByte v) cy ch).2).1 (alu .decl a (loByte v) cy ch).1 = v - 1 := by
  have hone : (1 : Addr).toNat = 1 := rfl
  have hv := v.isLt
  refine BitVec.eq_of_toNat_eq ?_
  rw [pairOf_toNat, alu_dech_toNat, alu_decl_toNat, alu_decl_borrow, hiByte_toNat, loByte_toNat, BitVec.toNat_sub, hone,
    toNat_decide]
  split <;> omega

theorem dech_decl_borrow :
    (alu .dech b (hiByte v) cy' (alu .decl a (loByte v) cy ch).2).2 = (v == 0x0000) := by
  have hzero : (0x0000 : Addr).toNat = 0 := rfl
  rw [alu_dech_borrow, alu_decl_borrow, hiByte_toNat, loByte_toNat, beq_eq_decide_toNat, hzero, toNat_decide,
    decide_eq_decide]
  split <;> omega

/-- The 16-bit sum, low half first. -/
theorem pairOf_adc_add :
    pairOf (alu .adc (hiByte v) (hiByte u) (alu .add (loByte v) (loByte u) cy ch).2 ch').1
      (alu .add (loByte v) (loByte u) cy ch).1 = v + u := by
  have hv := v.isLt
  have hu := u.isLt
  refine BitVec.eq_of_toNat_eq ?_
  simp only [pairOf_toNat, alu_adc_toNat, alu_add_toNat, alu_add_carry, hiByte_toNat, loByte_toNat, BitVec.toNat_add,
    toNat_decide]
  split <;> omega

theorem adc_add_carry :
    (alu .adc (hiByte v) (hiByte u) (alu .add (loByte v) (loByte u) cy ch).2 ch').2
      = decide (65536 ≤ v.toNat + u.toNat) := by
  simp only [alu_adc_carry, alu_add_carry, hiByte_toNat, loByte_toNat, toNat_decide, decide_eq_decide]
  split <;> omega

end halves

end Sys2Proof.Machine

namespace Sys2Proof

open Machine

/-- Settles O7. -/
theorem aluArithmetic : Obligations.AluArithmetic := fun a x cy ch =>
  ⟨⟨alu_incl_toNat a x cy ch, alu_incl_carry a x cy ch⟩, ⟨alu_inch_toNat a x cy ch, alu_inch_carry a x cy ch⟩,
    ⟨alu_decl_toNat a x cy ch, alu_decl_borrow a x cy ch⟩, ⟨alu_dech_toNat a x cy ch, alu_dech_borrow a x cy ch⟩,
    ⟨alu_add_toNat a x cy ch, alu_add_carry a x cy ch⟩, ⟨alu_adc_toNat a x cy ch, alu_adc_carry a x cy ch⟩,
    ⟨alu_sub_toNat a x cy ch, alu_sub_borrow a x cy ch⟩, ⟨alu_sbb_toNat a x cy ch, alu_sbb_borrow a x cy ch⟩,
    alu_cmp_eq_sub a x cy ch⟩

/-- Settles O8. -/
theorem aluBits : Obligations.AluBits := fun a x cy _ =>
  ⟨rfl, rfl, ⟨rfl, fun _ => getLsbD_shiftIn cy x⟩, ⟨rfl, fun _ => getLsbD_shiftIn (x.getLsbD 0) x⟩,
    ⟨rfl, fun _ => BitVec.getLsbD_and (x := a)⟩, ⟨rfl, fun _ => BitVec.getLsbD_xor (x := a)⟩,
    ⟨rfl, fun _ => BitVec.getLsbD_or (x := a)⟩⟩

/-- Settles O9: the two sides of each identity are one number. -/
theorem aluIdentities : Obligations.AluIdentities :=
  ⟨alu_adc_self, fun a cy ch => ⟨alu_inch_add_self a cy ch a cy, alu_add_self_carry a cy ch⟩, fun _ _ _ _ => rfl,
    fun v a cy ch => pairOf_inch_incl v a a cy ch cy, fun v a cy ch => pairOf_dech_decl v a a cy ch cy,
    fun v u cy ch ch' => ⟨pairOf_adc_add v u cy ch ch', adc_add_carry v u cy ch ch'⟩⟩

end Sys2Proof
end

section
/-! PROOFS. Single control words (spec/41_micro_step.md R125, R134; spec/30_encoding.md R69; spec/42_micro_ops.md R173 to
R176): the destination latch, the signal words, and the two-step idioms. -/

namespace Sys2Proof.Machine

open MicroOp

variable (s : State)

/-! ### The destination latch -/

section latch

variable (dst : Sel) (adr : Addr) (v : Byte)

/-- A register other than FLAGS holds what was latched in it, and its old value if another was the destination. -/
theorem State.latch_source {k : Sel} (hm : k ≠ .m) (hflags : k ≠ .flags) (x : Addr) :
    (s.latch dst adr v).source k x = if k = dst then v else s.source k x := by
  cases k
  case m => exact absurd rfl hm
  case flags => exact absurd rfl hflags
  all_goals cases dst <;> rfl

theorem State.latch_readByte (x : Addr) :
    (s.latch dst adr v).readByte x = if dst = .m ∧ x = adr then v else s.readByte x := by
  cases dst
  case m => simp [State.latch, State.readByte_writeByte]
  all_goals rfl

end latch

/-- Without register swap the commits after the latch reach the flags and the latches alone. -/
theorem microStep_unswapped (f : ControlWord) :
    ∃ cy zf sf chain inte, microStep { f with swap := false } s =
      { s.commitLatch f (s.address f.adr) (s.aluOutput f).1 with
        cy, zf, sf, chain, inte, step := if f.last then 0 else s.step + 1 } := by
  rw [microStep_eq]
  exact ⟨_, _, _, _, _, rfl⟩

end Sys2Proof.Machine

namespace Sys2Proof

open Machine

/-- Settles O11. -/
theorem microStepLatch : Obligations.MicroStepLatch := by
  intro f s
  obtain ⟨cy, zf, sf, chain, inte, heq⟩ := microStep_unswapped s f
  dsimp only
  rw [heq]
  refine ⟨fun k hm hflags x => ?register, fun x => ?memory, rfl⟩
  case register =>
    calc State.source _ k x
      _ = (s.commitLatch f (s.address f.adr) (s.aluOutput f).1).source k x := by
        cases k
        case flags => exact absurd rfl hflags
        all_goals rfl
      _ = _ := by
        by_cases hcmp : f.alu = .cmp <;> simp [State.commitLatch, hcmp, State.latch_source s _ _ _ hm hflags]
  case memory =>
    show (s.commitLatch f (s.address f.adr) (s.aluOutput f).1).readByte x = _
    by_cases hcmp : f.alu = .cmp <;> simp [State.commitLatch, hcmp, State.latch_readByte]

end Sys2Proof

namespace Sys2Proof.Machine

/-! ### Signal words -/

/-- What R69 (g) asks of a word that has a signal. -/
structure SignalWord (f : ControlWord) : Prop where
  self : f.src = f.dst
  src : f.src ≠ .m
  alu : f.alu = .byp
  csel : f.csel ≠ .rstv
  ccap : f.ccap = false
  zscap : f.zscap = false
  carry : f.cset = false ∨ f.ccpl = false
  enable : f.ei = false ∨ f.di = false

/-- Two bits whose sum with others is at most 1 are not both on. -/
theorem off_or_off {v w : Bool} {n : Nat} (h : n + v.toNat + w.toNat ≤ 1) : v = false ∨ w = false := by
  cases v
  · exact .inl rfl
  · cases w
    · exact .inr rfl
    · simp only [Bool.toNat_true] at h
      omega

theorem signalWord_of_generated {f : ControlWord} (h : f.generated = true)
    (hsignal : f.cset = true ∨ f.ccpl = true ∨ f.swap = true ∨ f.ei = true ∨ f.di = true) : SignalWord f := by
  have hsignals : WordCheck.signalsInert f = true := by
    simp only [ControlWord.generated, Bool.and_eq_true] at h
    exact h.1.2
  simp only [WordCheck.signalsInert, Bool.and_eq_true, Bool.or_eq_true, beq_iff_eq, decide_eq_true_eq] at hsignals
  obtain ⟨hone, hnone | ⟨-, hinert⟩⟩ := hsignals
  · obtain h | h | h | h | h := hsignal <;> simp [h] at hnone
  · simp only [ControlWord.inert, ControlWord.unsignalled, Bool.and_eq_true, beq_iff_eq, bne_iff_ne, Bool.not_eq_true',
      and_true] at hinert
    obtain ⟨⟨⟨⟨⟨self, src⟩, alu⟩, csel⟩, ccap⟩, zscap⟩ := hinert
    exact ⟨self, src, alu, csel, ccap, zscap, off_or_off hone, off_or_off (n := f.swap.toNat) (by omega)⟩

/-- A signal word does its signal, clears CHAIN and moves STEP. -/
theorem microStep_of_signalWord {f : ControlWord} (h : SignalWord f) (s : State) :
    microStep f s =
      { s with
        cy := if f.cset then true else if f.ccpl then !s.cy else s.cy
        h := if f.swap then s.d else s.h
        l := if f.swap then s.e else s.l
        d := if f.swap then s.h else s.d
        e := if f.swap then s.l else s.e
        inte := if f.ei then true else if f.di then false else s.inte
        chain := false
        step := if f.last then 0 else s.step + 1 } := by
  have halu : s.aluOutput f = (s.source f.src (s.address f.adr), false) := by
    rw [s.aluOutput_of_byp h.alu, s.busValue_eq_source (.inl h.csel)]
  have hlatch : s.commitLatch f (s.address f.adr) (s.source f.src (s.address f.adr)) = s := by
    simp [State.commitLatch, h.alu, ← h.self, s.latch_source_self h.src]
  have hcarry : carryAfter f s.cy false = if f.cset then true else if f.ccpl then !s.cy else s.cy := by
    obtain hoff | hoff := h.carry <;> simp [carryAfter, h.ccap, hoff]
  have henable : (if f.di then false else if f.ei then true else s.inte)
      = if f.ei then true else if f.di then false else s.inte := by
    obtain hoff | hoff := h.enable <;> simp [hoff]
  simp only [microStep_eq, halu, hlatch, State.commitSwap_eq, hcarry, henable, h.zscap, Bool.false_eq_true, if_false]

end Sys2Proof.Machine

namespace Sys2Proof

open Machine

/-- Settles O59. The checks leave of a word with a signal only the signal. -/
theorem signalWords : Obligations.SignalWords :=
  ⟨fun _ s hgenerated hsignal => microStep_of_signalWord (signalWord_of_generated hgenerated hsignal) s, by
    simp only [List.forall_mem_cons, List.not_mem_nil, false_imp_iff, implies_true, and_true]
    refine ⟨⟨?_, ?_⟩, ⟨?_, ?_⟩, ⟨?_, ?_⟩, ⟨?_, ?_⟩, ?_, ?_⟩ <;> decide⟩

end Sys2Proof

namespace Sys2Proof.Machine

open MicroOp

/-! ### Words without their step -/

/-- What a word does, STEP apart. -/
def perform (u : ControlWord) (s : State) : State := { microStep u s with step := s.step }

/-- What a sequence of words does, STEP apart. -/
def performAll (seq : List ControlWord) (s : State) : State := seq.foldl (fun s u => perform u s) s

@[simp] theorem performAll_nil (s : State) : performAll [] s = s := rfl
@[simp] theorem performAll_cons (u : ControlWord) (seq : List ControlWord) (s : State) :
    performAll (u :: seq) s = performAll seq (perform u s) := rfl
@[simp] theorem performAll_append (seq seq' : List ControlWord) (s : State) :
    performAll (seq ++ seq') s = performAll seq' (performAll seq s) := List.foldl_append

theorem State.commitLatch_withStep (f : ControlWord) (adr : Addr) (out : Byte) (s : State) (k : BitVec 5) :
    { s with step := k : State }.commitLatch f adr out = { s.commitLatch f adr out with step := k } := by
  unfold State.commitLatch
  split
  · rfl
  · cases f.dst <;> rfl

theorem State.address_withStep (p : AdrSrc) (s : State) (k : BitVec 5) :
    { s with step := k : State }.address p = s.address p := by cases p <;> rfl

theorem State.aluOutput_withStep (u : ControlWord) (s : State) (k : BitVec 5) :
    { s with step := k : State }.aluOutput u = s.aluOutput u := by
  unfold State.aluOutput State.busValue
  rw [State.address_withStep]
  cases u.src <;> rfl

/-- STEP reaches nothing but itself. -/
theorem perform_withStep (u : ControlWord) (s : State) (k : BitVec 5) :
    perform u { s with step := k } = { perform u s with step := k } := by
  simp only [perform, microStep_eq, State.commitSwap_eq, State.address_withStep, State.aluOutput_withStep,
    State.commitLatch_withStep]

theorem microAccesses_withStep (u : ControlWord) (s : State) (k : BitVec 5) :
    microAccesses u { s with step := k } = microAccesses u s := by
  simp only [microAccesses, State.address_withStep, State.aluOutput_withStep]
  rfl

theorem microStep_eq_perform (u : ControlWord) (s : State) :
    microStep u s = { perform u s with step := if u.last then 0 else s.step + 1 } := by
  rw [perform, microStep_eq, State.commitSwap_eq]

/-! ### The words of the library, STEP apart -/

section words

variable (s : State)

theorem perform_of_microStep {u : ControlWord} {s t : State} (h : microStep u s = t.nextStep) (ht : t.step = s.step) :
    perform u s = t := by
  rw [perform, h, ← ht]

theorem perform_incl (r : Sel) :
    perform (incl r) s =
      (s.latch r s.hl (alu .incl s.a (s.source r s.hl) s.cy s.chain).1).withChain
        (alu .incl s.a (s.source r s.hl) s.cy s.chain).2 :=
  perform_of_microStep (microStep_incl s r) (s.latch_step ..)

theorem perform_inch (r : Sel) :
    perform (inch r) s =
      (s.latch r s.hl (alu .inch s.a (s.source r s.hl) s.cy s.chain).1).withChain
        (alu .inch s.a (s.source r s.hl) s.cy s.chain).2 :=
  perform_of_microStep (microStep_inch s r) (s.latch_step ..)

theorem perform_decl (r : Sel) :
    perform (decl r) s =
      (s.latch r s.hl (alu .decl s.a (s.source r s.hl) s.cy s.chain).1).withChain
        (alu .decl s.a (s.source r s.hl) s.cy s.chain).2 :=
  perform_of_microStep (microStep_decl s r) (s.latch_step ..)

theorem perform_dech (r : Sel) :
    perform (dech r) s =
      (s.latch r s.hl (alu .dech s.a (s.source r s.hl) s.cy s.chain).1).withChain
        (alu .dech s.a (s.source r s.hl) s.cy s.chain).2 :=
  perform_of_microStep (microStep_dech s r) (s.latch_step ..)

end words

/-! ### The two-step idioms -/

section idioms

variable {lo hi : Sel} (h : hi.otherHalf = some lo) (s : State)
include h

/-- The 16-bit increment of the pair of two halves (R145, R146, R173). -/
theorem performAll_incl_inch :
    performAll [incl lo, inch hi] s =
      let v := pairOf (s.source hi 0) (s.source lo 0)
      ((s.latch lo 0 (loByte (v + 1))).latch hi 0 (hiByte (v + 1))).withChain (v == 0xFFFF) := by
  have hsum := pairOf_inch_incl (pairOf (s.source hi 0) (s.source lo 0)) s.a s.a s.cy s.chain s.cy
  have hchain := inch_incl_carry (pairOf (s.source hi 0) (s.source lo 0)) s.a s.a s.cy s.chain s.cy
  simp only [loByte_pairOf, hiByte_pairOf] at hsum hchain
  simp only [performAll_cons, performAll_nil, perform_incl, perform_inch, ← hsum, ← hchain, loByte_pairOf, hiByte_pairOf]
  cases hi <;> cases h <;> rfl

/-- The 16-bit decrement of the pair of two halves (R147, R148, R175). -/
theorem performAll_decl_dech :
    performAll [decl lo, dech hi] s =
      let v := pairOf (s.source hi 0) (s.source lo 0)
      ((s.latch lo 0 (loByte (v - 1))).latch hi 0 (hiByte (v - 1))).withChain (v == 0x0000) := by
  have hsum := pairOf_dech_decl (pairOf (s.source hi 0) (s.source lo 0)) s.a s.a s.cy s.chain s.cy
  have hchain := dech_decl_borrow (pairOf (s.source hi 0) (s.source lo 0)) s.a s.a s.cy s.chain s.cy
  simp only [loByte_pairOf, hiByte_pairOf] at hsum hchain
  simp only [performAll_cons, performAll_nil, perform_decl, perform_dech, ← hsum, ← hchain, loByte_pairOf, hiByte_pairOf]
  cases hi <;> cases h <;> rfl

end idioms

/-- Two words in a row, with the STEP they move. -/
theorem microStep_microStep {u v : ControlWord} (hu : u.last = false) (hv : v.last = false) (s : State) :
    microStep v (microStep u s) = { performAll [u, v] s with step := s.step + 2 } := by
  have hstep : s.step + 1 + 1 = s.step + 2 := BitVec.add_assoc ..
  simp only [microStep_eq_perform, hu, hv, perform_withStep, Bool.false_eq_true, if_false, hstep, performAll_cons,
    performAll_nil]

theorem decode_adv : ControlWord.decode 0x00000899 = incl .pcl ∧ ControlWord.decode 0x00000C88 = inch .pch := by decide
theorem decode_spInc : ControlWord.decode 0x000008BB = incl .spl ∧ ControlWord.decode 0x00000CAA = inch .sph := by decide
theorem decode_spDec : ControlWord.decode 0x000010BB = decl .spl ∧ ControlWord.decode 0x000014AA = dech .sph := by decide
theorem decode_maInc : ControlWord.decode 0x000008DD = incl .mal ∧ ControlWord.decode 0x00000CCC = inch .mah := by decide

end Sys2Proof.Machine

namespace Sys2Proof

open Machine

/-- Settles O13: the words are the codec's, and each pair is the 16-bit increment or decrement of its two halves. -/
theorem twoStepIdioms : Obligations.TwoStepIdioms := by
  refine ⟨⟨by decide, by decide, by decide, by decide⟩, fun s => ⟨?adv, ?spInc, ?spDec, ?maInc⟩⟩
  case adv =>
    rw [microStepWord, microStepWord, decode_adv.1, decode_adv.2, microStep_microStep rfl rfl, performAll_incl_inch rfl]
    rfl
  case spInc =>
    rw [microStepWord, microStepWord, decode_spInc.1, decode_spInc.2, microStep_microStep rfl rfl, performAll_incl_inch rfl]
    rfl
  case spDec =>
    rw [microStepWord, microStepWord, decode_spDec.1, decode_spDec.2, microStep_microStep rfl rfl, performAll_decl_dech rfl]
    rfl
  case maInc =>
    rw [microStepWord, microStepWord, decode_maInc.1, decode_maInc.2, microStep_microStep rfl rfl, performAll_incl_inch rfl]
    rfl

end Sys2Proof
end

section
/-! PROOFS. The sequencer (spec/43_sequencer_and_rom.md R181 to R189, R198, R199): one clock at a used step performs the step
of the micro-program, IR and BANK stay, and the clocks of an instruction perform its whole micro-program. -/

namespace Sys2Proof.Machine

open MicroOp

/-! ### One clock -/

section clock

variable {s : State}

theorem inPadding_iff :
    s.inPadding controlStore = true ↔
      ∃ k : BitVec 5, k.toNat < s.step.toNat ∧ (controlStore (romAddress s.ir s.bankSelect k)).getLsbD 31 = true := by
  rw [State.inPadding, List.any_eq_true]
  refine ⟨fun ⟨k, hk, hlast⟩ => ?_, fun ⟨k, hk, hlast⟩ => ⟨k.toNat, List.mem_range.2 hk, ?_⟩⟩
  · have hk := List.mem_range.1 hk
    exact ⟨BitVec.ofNat 5 k, by rwa [toNat_ofNat_step (hk.trans s.step.isLt)], hlast⟩
  · rwa [BitVec.ofNat_toNat, BitVec.setWidth_eq]

/-- A clock over the control store reads padding, or a used step. -/
theorem inPadding_eq_false_iff :
    s.inPadding controlStore = false ↔ s.step.toNat < stepCount (shapeOf s.ir) s.bankSelect := by
  refine ⟨State.used_of_not_inPadding, fun hused => ?_⟩
  rw [← Bool.not_eq_true, inPadding_iff]
  rintro ⟨k, hk, hlast⟩
  rw [controlStore_romAddress, romWord_last_of_used (hk.trans hused)] at hlast
  have hlast := of_decide_eq_true hlast
  omega

theorem clock_of_padding (h : s.inPadding controlStore = true) : clock s = .fault .paddingDispatched := by
  rw [clock, clockWith, if_pos h]

/-- STEP 31 is padding in every bank of this store. -/
theorem clock_of_not_padding (h : s.inPadding controlStore = false) :
    clock s = .next (microStep (s.currentWord controlStore) s) := by
  have hused := inPadding_eq_false_iff.1 h
  have hbounds := stepCount_bounds (shapeOf s.ir) s.bankSelect
  have hstep : s.step ≠ 31 := fun h31 => by
    have htop : s.step.toNat = 31 := congrArg BitVec.toNat h31
    omega
  rw [clock, clockWith, h, if_neg Bool.false_ne_true, if_neg fun hoff => hstep hoff.1]

end clock

/-! ### The suffixes in the datapath -/

/-- Neither suffix makes or unmakes a RSTVEC. -/
theorem suffixed_csel_iff {op : Byte} {bank : Bool} {k : Nat} {u : ControlWord}
    (hu : (microProgram (shapeOf op) bank)[k]? = some u) : (suffixed op bank k u).csel = .rstv ↔ u.csel = .rstv := by
  unfold suffixed
  cases hcond : conditionOf (shapeOf op) with
  | none => simp [rowSelect_of_none hcond]
  | some cc =>
    have hinner := (allInner_microProgram hcond bank u (List.mem_of_getElem? hu)).csel
    rw [rowSelect_of_some hcond, hinner]
    split_ifs
    · rfl
    · cases cc <;> simp [Cond.csel]

section suffix

variable {op : Byte} {bank : Bool} {k : Nat} {u : ControlWord} (hu : (microProgram (shapeOf op) bank)[k]? = some u)
include hu

theorem aluOutput_suffixed (s : State) : s.aluOutput (suffixed op bank k u) = s.aluOutput u := by
  simp only [State.aluOutput, State.busValue, suffixed_csel_iff hu]
  rfl

theorem perform_suffixed (s : State) : perform (suffixed op bank k u) s = perform u s := by
  simp only [perform, microStep_eq, State.commitSwap_eq, aluOutput_suffixed hu]
  rfl

theorem microAccesses_suffixed (s : State) : microAccesses (suffixed op bank k u) s = microAccesses u s := by
  simp only [microAccesses, aluOutput_suffixed hu]
  rfl

end suffix

/-- A clock at a used step performs the step of the micro-program, and goes to the next step or, at the last, to the
boundary. -/
theorem clock_of_used {s : State} {u : ControlWord}
    (hu : (microProgram (shapeOf s.ir) s.bankSelect)[s.step.toNat]? = some u) :
    clock s = .next { perform u s with
      step := if s.step.toNat + 1 = stepCount (shapeOf s.ir) s.bankSelect then 0 else s.step + 1 } := by
  have hlength := (List.getElem?_eq_some_iff.1 hu).1
  rw [length_microProgram] at hlength
  have hlast := (wellBuilt_microProgram _ _).final u (List.mem_of_getElem? hu) |>.last
  rw [clock_of_not_padding (inPadding_eq_false_iff.2 hlength), State.currentWord, controlStore_romAddress,
    decode_romWord_of_used _ _ hu, microStep_eq_perform, perform_suffixed hu]
  simp [suffixed, hlast]

/-! ### What stays inside an instruction -/

theorem perform_ir {u : ControlWord} (h : u.dst ≠ .ir) (s : State) : (perform u s).ir = s.ir := by
  rw [perform, microStep_eq, State.commitSwap_eq]
  show (s.commitLatch u _ _).ir = s.ir
  unfold State.commitLatch
  split
  · rfl
  · exact (s.latch_source u.dst _ _ (k := .ir) (by decide) (by decide) 0).trans (if_neg h.symm)

/-- A word that writes no flag. -/
structure FlaglessWord (u : ControlWord) : Prop where
  ccap : u.ccap = false
  zscap : u.zscap = false
  cset : u.cset = false
  ccpl : u.ccpl = false
  dst : u.dst ≠ .flags

theorem perform_keepsFlags {u : ControlWord} (h : FlaglessWord u) (s : State) : KeepsFlags s (perform u s) := by
  refine ⟨?cy, ?zf, ?sf⟩
  case cy => exact (microStep_cy s u).trans (by simp [carryAfter, h.ccap, h.cset, h.ccpl, h.dst])
  case zf => exact (microStep_zf s u).trans (by simp [h.zscap, h.dst])
  case sf => exact (microStep_sf s u).trans (by simp [h.zscap, h.dst])

theorem State.holds_of_keepsFlags {s t : State} (h : KeepsFlags s t) (cc : Cond) : t.holds cc = s.holds cc := by
  obtain ⟨hcy, hzf, hsf⟩ := h
  cases cc <;> simp only [State.holds, hcy, hzf, hsf]

/-- R141: no step but the first loads IR. -/
theorem fetchOnce_microProgram (sh : Shape) (bank : Bool) : BankCheck.fetchOnce (microProgram sh bank) = true := by
  cases sh with
  | movRR r | movRM r | mviR r | inrR r | dcrR r => cases r <;> rfl
  | lxi p | inx p | dcx p | pop p => cases p <;> rfl
  | jcc | ccc | rcc => cases bank <;> rfl
  | _ => rfl

/-- R195 (d): no step of a conditional row writes a flag. -/
theorem keepsFlags_microProgram {sh : Shape} {cc : Cond} (h : conditionOf sh = some cc) (bank : Bool) :
    BankCheck.keepsFlags (microProgram sh bank) = true := by
  cases sh
  case rcc | jcc | ccc => cases bank <;> rfl
  all_goals cases h

section inside

variable {sh : Shape} {bank : Bool} {k : Nat} {u : ControlWord} (hu : (microProgram sh bank)[k]? = some u)
include hu

theorem dst_ne_ir_of_step (hk : k ≠ 0) : u.dst ≠ .ir := by
  obtain ⟨j, rfl⟩ := Nat.exists_eq_succ_of_ne_zero hk
  have hmem : u ∈ (microProgram sh bank).drop 1 := List.mem_of_getElem? (i := j) (by rwa [List.getElem?_drop, Nat.add_comm])
  simpa using List.all_eq_true.1 (fetchOnce_microProgram sh bank) u hmem

theorem flagless_of_step {cc : Cond} (h : conditionOf sh = some cc) : FlaglessWord u := by
  have hkeeps := List.all_eq_true.1 (keepsFlags_microProgram h bank) u (List.mem_of_getElem? hu)
  simp only [Bool.and_eq_true, Bool.not_eq_true', bne_iff_ne] at hkeeps
  obtain ⟨⟨⟨⟨ccap, zscap⟩, cset⟩, ccpl⟩, dst⟩ := hkeeps
  exact ⟨ccap, zscap, cset, ccpl, dst⟩

end inside

/-- A step after the fetch changes neither IR nor BANK. -/
theorem perform_bankSelect {s : State} {bank : Bool} {k : Nat} {u : ControlWord}
    (hu : (microProgram (shapeOf s.ir) bank)[k]? = some u) (hk : k ≠ 0) :
    (perform u s).ir = s.ir ∧ (perform u s).bankSelect = s.bankSelect := by
  have hir := perform_ir (dst_ne_ir_of_step hu hk) s
  refine ⟨hir, ?_⟩
  rw [State.bankSelect, State.bankSelect, hir]
  cases hcond : isConditional s.ir with
  | false => rfl
  | true =>
    have hflags := perform_keepsFlags (flagless_of_step hu (conditionOf_of_conditional hcond)) s
    rw [State.holds_of_keepsFlags hflags]

/-! ### The first clock -/

theorem perform_fetch (s : State) : perform fetch s = { s with ir := s.readByte s.pc, chain := false } := by
  rw [perform, microStep_fetch]

/-- At STEP 0 the clock fetches, whatever IR and the flags hold. -/
theorem clock_of_boundary {s : State} (h : s.step = 0) :
    clock s = .next { s with ir := s.readByte s.pc, chain := false, step := 1 } := by
  have hbounds := stepCount_bounds (shapeOf s.ir) s.bankSelect
  have hfetch : (microProgram (shapeOf s.ir) s.bankSelect)[s.step.toNat]? = some fetch := by
    rw [h]
    exact getElem?_zero_microProgram _ _
  have hfirst : s.step.toNat + 1 ≠ stepCount (shapeOf s.ir) s.bankSelect := by
    rw [h]
    show 0 + 1 ≠ _
    omega
  rw [clock_of_used hfetch, if_neg hfirst, perform_fetch, h]
  rfl

end Sys2Proof.Machine

namespace Sys2Proof

open Machine

/-- Settles O22: the opcodes of the bank select are those of R184's patterns. -/
theorem bankSelectRule : Obligations.BankSelectRule := by
  intro s
  refine ⟨?_, rfl, rfl, rfl, rfl, rfl, rfl, rfl, rfl⟩
  simp only [State.bankSelect, ← isConditional_iff]
  cases isConditional s.ir <;> rfl

/-- Settles O23: a clock that answers a state performs a step of the micro-program, and at STEP 1 or later not the
fetch. -/
theorem bankConstant : Obligations.BankConstant := by
  intro s t hstep _ hclock _
  cases hpadding : s.inPadding controlStore with
  | true =>
    rw [clock_of_padding hpadding] at hclock
    cases hclock
  | false =>
    have hused := inPadding_eq_false_iff.1 hpadding
    rw [← length_microProgram] at hused
    have hu := List.getElem?_eq_getElem hused
    rw [clock_of_used hu] at hclock
    obtain rfl := Host.Outcome.next.inj hclock
    exact perform_bankSelect hu fun h0 => hstep (BitVec.eq_of_toNat_eq h0)

/-- Settles O27: a clock past the marker reports padding, and any other reads a used step, of which STEP 0 is one and
STEP 31 is none. -/
theorem paddingReported : Obligations.PaddingReported := by
  intro s
  rw [← inPadding_iff]
  cases hpadding : s.inPadding controlStore with
  | true =>
    rw [clock_of_padding hpadding]
    refine ⟨by simp, by simp, fun hstep => ?first⟩
    case first =>
      obtain ⟨k, hk, -⟩ := inPadding_iff.1 hpadding
      rw [hstep] at hk
      exact absurd hk (Nat.not_lt_zero _)
  | false =>
    rw [clock_of_not_padding hpadding]
    exact ⟨by simp, by simp, by simp⟩

/-- Settles O32. -/
theorem resetFetches : Obligations.ResetFetches := by
  refine ⟨State.assertReset_eq, fun s => ?clock, rfl, rfl, rfl⟩
  case clock =>
    have hpc : s.assertReset.pc = 0x0000 := pairOf_hiByte_loByte _
    rw [clock_of_boundary rfl, hpc]
    rfl

end Sys2Proof
end

section
/-! PROOFS. The run of an instruction (spec/43_sequencer_and_rom.md R188): from a boundary the clocks perform the whole
micro-program of the fetched opcode, in the bank that the flags select, and reach the next boundary at its last step. -/

namespace Sys2Proof.Machine

open MicroOp

/-! ### The micro-program that a boundary starts -/

/-- BANK by the shape of the opcode in IR. -/
theorem State.takes_eq (s : State) (sh : Shape) : s.takes sh = ((conditionOf sh).map s.holds).getD false := by
  cases sh <;> rfl

theorem State.bankSelect_eq_takes (s : State) : s.bankSelect = s.takes (shapeOf s.ir) := by
  rw [State.takes_eq, conditionOf_shapeOf, State.bankSelect]
  cases isConditional s.ir <;> rfl

theorem State.takes_of_keepsFlags {s t : State} (h : KeepsFlags s t) (sh : Shape) : t.takes sh = s.takes sh := by
  have hholds : t.holds = s.holds := funext (State.holds_of_keepsFlags h)
  rw [State.takes_eq, State.takes_eq, hholds]

/-- The shape of the instruction at PC. -/
def State.shape (s : State) : Shape := shapeOf (s.readByte s.pc)

/-- The micro-program of the instruction at PC. -/
def State.program (s : State) : List ControlWord := microProgram s.shape (s.takes s.shape)

theorem State.length_program (s : State) : s.program.length = stepCount s.shape (s.takes s.shape) := length_microProgram _ _

theorem State.length_program_bounds (s : State) : 2 ≤ s.program.length ∧ s.program.length ≤ 17 := by
  rw [State.length_program]
  exact stepCount_bounds _ _

theorem State.take_one_program (s : State) : s.program.take 1 = [fetch] := by
  have hfetch : s.program[0]? = some fetch := getElem?_zero_microProgram _ _
  rw [List.take_one, List.head?_eq_getElem?, hfetch]
  rfl

/-- The state after `k` steps of the instruction at PC. -/
def State.during (s : State) (k : Nat) : State :=
  { performAll (s.program.take k) s with step := if k = s.program.length then 0 else BitVec.ofNat 5 k }

theorem performAll_step (seq : List ControlWord) (s : State) : (performAll seq s).step = s.step := by
  induction seq generalizing s with
  | nil => rfl
  | cons u rest ih => exact ih (perform u s)

theorem performAll_take_succ {seq : List ControlWord} {k : Nat} {u : ControlWord} (hu : seq[k]? = some u) (s : State) :
    performAll (seq.take (k + 1)) s = perform u (performAll (seq.take k) s) := by
  rw [List.take_add_one, hu, performAll_append]
  rfl

theorem State.during_step {s : State} {k : Nat} (hk : k < s.program.length) : (s.during k).step.toNat = k := by
  have hbounds := s.length_program_bounds
  rw [State.during, if_neg hk.ne]
  exact toNat_ofNat_step (by omega)

section boundary

variable {s : State} (hs : s.step = 0)

/-- After the fetch IR holds the opcode at PC, and BANK is the bank of the micro-program. -/
theorem State.during_selects {k : Nat} (hpos : 1 ≤ k) (hk : k ≤ s.program.length) :
    (performAll (s.program.take k) s).ir = s.readByte s.pc
      ∧ (performAll (s.program.take k) s).bankSelect = s.takes s.shape := by
  induction k, hpos using Nat.le_induction with
  | base =>
    rw [State.take_one_program, performAll_cons, performAll_nil, perform_fetch]
    exact ⟨rfl, (State.bankSelect_eq_takes _).trans (State.takes_of_keepsFlags ⟨rfl, rfl, rfl⟩ _)⟩
  | succ k hpos ih =>
    obtain ⟨hir, hbank⟩ := ih (by omega)
    have hu : s.program[k]? = some s.program[k] := List.getElem?_eq_getElem (by omega)
    have hkept := perform_bankSelect (s := performAll (s.program.take k) s) (by rwa [hir]) (Nat.pos_iff_ne_zero.1 hpos)
    rw [performAll_take_succ hu, hkept.1, hkept.2]
    exact ⟨hir, hbank⟩

/-- The word that a clock of the run reads is, its suffixes apart, the step of the micro-program; at STEP 0 it is the
fetch, whatever IR holds. -/
theorem State.during_word {k : Nat} {u : ControlWord} (hu : s.program[k]? = some u) :
    (microProgram (shapeOf (s.during k).ir) (s.during k).bankSelect)[(s.during k).step.toNat]? = some u := by
  have hk := (List.getElem?_eq_some_iff.1 hu).1
  rw [State.during_step hk]
  obtain rfl | hpos := Nat.eq_zero_or_pos k
  · rw [getElem?_zero_microProgram, ← hu]
    exact (getElem?_zero_microProgram _ _).symm
  · obtain ⟨hir, hbank⟩ := State.during_selects hpos hk.le
    have hir' : (s.during k).ir = s.readByte s.pc := hir
    have hbank' : (s.during k).bankSelect = s.takes s.shape := hbank
    rwa [hir', hbank']

include hs

theorem State.during_zero : s.during 0 = s := by
  have hbounds := s.length_program_bounds
  rw [State.during, if_neg (by omega), List.take_zero, performAll_nil]
  exact congrArg (fun k => { s with step := k }) hs.symm

/-- One clock of the run. -/
theorem clock_during {k : Nat} (hk : k < s.program.length) : clock (s.during k) = .next (s.during (k + 1)) := by
  have hbounds := s.length_program_bounds
  obtain rfl | hpos := Nat.eq_zero_or_pos k
  · rw [State.during_zero hs, clock_of_boundary hs, State.during, if_neg (by omega), State.take_one_program, performAll_cons,
      performAll_nil, perform_fetch]
    rfl
  · obtain ⟨hir, hbank⟩ := State.during_selects hpos hk.le
    have hu : s.program[k]? = some s.program[k] := List.getElem?_eq_getElem hk
    have hstep : (s.during k).step = BitVec.ofNat 5 k := if_neg hk.ne
    have hcount : stepCount (shapeOf (s.during k).ir) (s.during k).bankSelect = s.program.length := by
      rw [← length_microProgram]
      exact congrArg₂ (fun op bank => (microProgram (shapeOf op) bank).length) hir hbank
    rw [clock_of_used (State.during_word hu), hcount, State.during_step hk, hstep, State.during, perform_withStep,
      State.during, performAll_take_succ hu, BitVec.ofNat_add]
    rfl

theorem runClocks_during {k j : Nat} (hk : k + j ≤ s.program.length) :
    runClocks j (s.during k) = .next (s.during (k + j)) := by
  induction j generalizing k with
  | zero => rfl
  | succ j ih =>
    rw [runClocks, clock_during hs (by omega)]
    exact (ih (by omega)).trans (by rw [Nat.add_right_comm, Nat.add_assoc])

theorem clocksToBoundary_during {k fuel : Nat} (hk : k < s.program.length) (hfuel : s.program.length ≤ k + fuel) :
    clocksToBoundary fuel (s.during k) = .next (s.during s.program.length) := by
  induction fuel generalizing k with
  | zero => omega
  | succ fuel ih =>
    rw [clocksToBoundary, clock_during hs hk]
    by_cases hlast : k + 1 = s.program.length
    · have hzero : (s.during (k + 1)).step = 0 := if_pos hlast
      exact (if_pos hzero).trans (by rw [hlast])
    · have hne : (s.during (k + 1)).step ≠ 0 := fun h0 => by
        have hnat := State.during_step (s := s) (k := k + 1) (by omega)
        rw [h0] at hnat
        cases hnat
      exact (if_neg hne).trans (ih (by omega) (by omega))

/-- The last step leaves the boundary at which the next instruction starts. -/
theorem State.during_length : s.during s.program.length = performAll s.program s := by
  have hzero : (performAll s.program s).step = 0 := (performAll_step _ s).trans hs
  rw [State.during, List.take_length, if_pos rfl]
  exact congrArg (fun k => { performAll s.program s with step := k }) hzero.symm

/-- From a boundary the clocks up to the next one perform the micro-program (R188). -/
theorem microInstruction_of_boundary : microInstruction s = .next (performAll s.program s) := by
  have hbounds := s.length_program_bounds
  have hrun := clocksToBoundary_during hs (k := 0) (fuel := 32) (by omega) (by omega)
  rwa [State.during_zero hs, State.during_length hs] at hrun

end boundary

/-! ### Memory accesses -/

/-- The memory accesses of a sequence of words, in order. -/
def accessesOf : List ControlWord → State → List Access
  | [], _ => []
  | u :: rest, s => microAccesses u s ++ accessesOf rest (perform u s)

@[simp] theorem accessesOf_nil (s : State) : accessesOf [] s = [] := rfl
@[simp] theorem accessesOf_cons (u : ControlWord) (rest : List ControlWord) (s : State) :
    accessesOf (u :: rest) s = microAccesses u s ++ accessesOf rest (perform u s) := rfl
@[simp] theorem accessesOf_append (seq seq' : List ControlWord) (s : State) :
    accessesOf (seq ++ seq') s = accessesOf seq s ++ accessesOf seq' (performAll seq s) := by
  induction seq generalizing s with
  | nil => rfl
  | cons u rest ih => simp [ih]

section boundary

variable {s : State} (hs : s.step = 0)

/-- The accesses of one clock of the run are those of its step. -/
theorem microAccesses_during {k : Nat} {u : ControlWord} (hu : s.program[k]? = some u) :
    microAccesses ((s.during k).currentWord controlStore) (s.during k)
      = microAccesses u (performAll (s.program.take k) s) := by
  have hword := State.during_word hu
  rw [State.currentWord, controlStore_romAddress, decode_romWord_of_used _ _ hword, microAccesses_suffixed hword,
    State.during, microAccesses_withStep]

include hs

/-- The clocks of an instruction make the accesses of its micro-program. -/
theorem clockAccesses_during {k j : Nat} (hk : k + j = s.program.length) :
    clockAccesses j (s.during k) = accessesOf (s.program.drop k) (performAll (s.program.take k) s) := by
  induction j generalizing k with
  | zero =>
    rw [List.drop_eq_nil_of_le (by omega)]
    rfl
  | succ j ih =>
    have hu : s.program[k]? = some (s.program[k]'(by omega)) := List.getElem?_eq_getElem (by omega)
    rw [clockAccesses, clock_during hs (by omega), List.drop_eq_getElem_cons (by omega), accessesOf_cons,
      ← performAll_take_succ hu, ← ih (by omega), ← microAccesses_during hu]

theorem clockAccesses_of_boundary : clockAccesses s.program.length s = accessesOf s.program s := by
  have hrun := clockAccesses_during hs (k := 0) (Nat.zero_add _)
  rwa [State.during_zero hs] at hrun

end boundary

end Sys2Proof.Machine
end

section
/-! PROOFS. The micro-programs and the meanings: the words of the library one by one, STEP apart; the sequences that the
micro-programs share; and for every shape the state and the memory accesses that its micro-program makes. -/

namespace Sys2Proof.Machine

open MicroOp

/-! ### States by their fields -/

@[ext] theorem State.ext {s t : State} (b : s.b = t.b) (c : s.c = t.c) (d : s.d = t.d) (e : s.e = t.e) (h : s.h = t.h)
    (l : s.l = t.l) (a : s.a = t.a) (pch : s.pch = t.pch) (pcl : s.pcl = t.pcl) (sph : s.sph = t.sph) (spl : s.spl = t.spl)
    (mah : s.mah = t.mah) (mal : s.mal = t.mal) (ir : s.ir = t.ir) (cy : s.cy = t.cy) (zf : s.zf = t.zf) (sf : s.sf = t.sf)
    (inte : s.inte = t.inte) (chain : s.chain = t.chain) (step : s.step = t.step) (mem : s.mem = t.mem) : s = t := by
  cases s
  cases t
  simp_all

/-! ### Selectable registers that operands name -/

@[simp] theorem State.latch_sel (s : State) (r : Reg) (adr : Addr) (v : Byte) : s.latch r.sel adr v = s.setReg r v := by
  cases r <;> rfl

@[simp] theorem State.source_sel (s : State) (r : Reg) (adr : Addr) : s.source r.sel adr = s.getReg r := by
  cases r <;> rfl

section latches

variable (s : State) (adr : Addr) (v : Byte)

@[simp] theorem State.latch_b : s.latch .b adr v = s.setReg .b v := rfl
@[simp] theorem State.latch_c : s.latch .c adr v = s.setReg .c v := rfl
@[simp] theorem State.latch_d : s.latch .d adr v = s.setReg .d v := rfl
@[simp] theorem State.latch_e : s.latch .e adr v = s.setReg .e v := rfl
@[simp] theorem State.latch_a : s.latch .a adr v = s.setReg .a v := rfl
@[simp] theorem State.latch_flags : s.latch .flags adr v = s.setFlagByte v := rfl
@[simp] theorem State.latch_h : s.latch .h adr v = s.setReg .h v := rfl
@[simp] theorem State.latch_l : s.latch .l adr v = s.setReg .l v := rfl
@[simp] theorem State.latch_mal : s.latch .mal adr v = s.setMAL v := rfl
@[simp] theorem State.latch_mah : s.latch .mah adr v = s.setMA (pairOf v s.mal) := by
  simp [State.latch, State.setMA]
@[simp] theorem State.latch_pch : s.latch .pch adr v = s.setPC (pairOf v s.pcl) := by
  simp [State.latch, State.setPC]
@[simp] theorem State.latch_pcl : s.latch .pcl adr v = s.setPC (pairOf s.pch v) := by
  simp [State.latch, State.setPC]
@[simp] theorem State.latch_sph : s.latch .sph adr v = s.setSP (pairOf v s.spl) := by
  simp [State.latch, State.setSP]
@[simp] theorem State.latch_spl : s.latch .spl adr v = s.setSP (pairOf s.sph v) := by
  simp [State.latch, State.setSP]

@[simp] theorem State.setMAL_ma : (s.setMAL v).ma = pairOf s.mah v := rfl
@[simp] theorem State.setReg_hl (r : Reg) :
    (s.setReg r v).hl = pairOf (if r = .h then v else s.h) (if r = .l then v else s.l) := by simp [State.hl]

end latches

/-! ### The words of the library -/

section words

variable (s : State)

@[simp] theorem perform_mov (dst src : Sel) :
    perform (mov dst src) s = (s.latch dst s.hl (s.source src s.hl)).withChain false :=
  perform_of_microStep (microStep_mov s dst src) (s.latch_step ..)

@[simp] theorem perform_ld (dst : Sel) (p : AdrSrc) :
    perform (ld dst p) s = (s.latch dst (s.address p) (s.readByte (s.address p))).withChain false :=
  perform_of_microStep (microStep_ld s dst p) (s.latch_step ..)

@[simp] theorem perform_st (p : AdrSrc) (src : Sel) :
    perform (st p src) s = (s.writeByte (s.address p) (s.source src (s.address p))).withChain false :=
  perform_of_microStep (microStep_st s p src) rfl

@[simp] theorem perform_inr (r : Sel) :
    perform (inr r) s =
      ((s.latch r s.hl (s.source r s.hl + 1)).withChain (s.source r s.hl == 0xFF)).captureZS (s.source r s.hl + 1) :=
  perform_of_microStep (microStep_inr s r) (s.latch_step ..)

@[simp] theorem perform_dcr (r : Sel) :
    perform (dcr r) s =
      ((s.latch r s.hl (s.source r s.hl - 1)).withChain (s.source r s.hl == 0x00)).captureZS (s.source r s.hl - 1) :=
  perform_of_microStep (microStep_dcr s r) (s.latch_step ..)

@[simp] theorem perform_inrM (dst : Sel) (p : AdrSrc) :
    perform (inrM dst p) s =
      ((s.latch dst (s.address p) (s.readByte (s.address p) + 1)).withChain (s.readByte (s.address p) == 0xFF)).captureZS
        (s.readByte (s.address p) + 1) :=
  perform_of_microStep (microStep_inrM s dst p) (s.latch_step ..)

@[simp] theorem perform_dcrM (dst : Sel) (p : AdrSrc) :
    perform (dcrM dst p) s =
      ((s.latch dst (s.address p) (s.readByte (s.address p) - 1)).withChain (s.readByte (s.address p) == 0x00)).captureZS
        (s.readByte (s.address p) - 1) :=
  perform_of_microStep (microStep_dcrM s dst p) (s.latch_step ..)

@[simp] theorem perform_acc (op : AccOp) (src : Sel) : perform (acc op src) s = s.accumulate op (s.source src s.hl) :=
  perform_of_microStep (microStep_acc s op src) (by simp)

@[simp] theorem perform_accM (op : AccOp) (p : AdrSrc) :
    perform (accM op p) s = s.accumulate op (s.readByte (s.address p)) :=
  perform_of_microStep (microStep_accM s op p) (by simp)

@[simp] theorem perform_clr (r : Sel) : perform (clr r) s = (s.latch r s.hl 0x00).withChain false :=
  perform_of_microStep (microStep_clr s r) (s.latch_step ..)

@[simp] theorem perform_addc (dst src : Sel) :
    perform (addc dst src) s =
      ((s.latch dst s.hl (alu .add s.a (s.source src s.hl) s.cy s.chain).1).withChain
        (alu .add s.a (s.source src s.hl) s.cy s.chain).2).withCY (alu .add s.a (s.source src s.hl) s.cy s.chain).2 :=
  perform_of_microStep (microStep_addc s dst src) (s.latch_step ..)

@[simp] theorem perform_adcc (dst src : Sel) :
    perform (adcc dst src) s =
      ((s.latch dst s.hl (alu .adc s.a (s.source src s.hl) s.cy s.chain).1).withChain
        (alu .adc s.a (s.source src s.hl) s.cy s.chain).2).withCY (alu .adc s.a (s.source src s.hl) s.cy s.chain).2 :=
  perform_of_microStep (microStep_adcc s dst src) (s.latch_step ..)

@[simp] theorem perform_xornf (src : Sel) :
    perform (xornf src) s = (s.setReg .a (s.a ^^^ s.source src s.hl)).withChain false :=
  perform_of_microStep (microStep_xornf s src) rfl

@[simp] theorem perform_rotRlc1 :
    perform rotRlc1 s =
      ((s.setReg .a (alu .add s.a s.a s.cy s.chain).1).withCY (alu .add s.a s.a s.cy s.chain).2).withChain
        (alu .add s.a s.a s.cy s.chain).2 :=
  perform_of_microStep (microStep_rotRlc1 s) rfl

@[simp] theorem perform_rotRlc2 :
    perform rotRlc2 s =
      (s.setReg .a (alu .inch s.a s.a s.cy s.chain).1).withChain (alu .inch s.a s.a s.cy s.chain).2 :=
  perform_of_microStep (microStep_rotRlc2 s) rfl

@[simp] theorem perform_rotRrc : perform rotRrc s = s.rotateA .rrc := perform_of_microStep (microStep_rotRrc s) rfl
@[simp] theorem perform_rotRal : perform rotRal s = s.rotateA .adc := perform_of_microStep (microStep_rotRal s) rfl
@[simp] theorem perform_rotRar : perform rotRar s = s.rotateA .rar := perform_of_microStep (microStep_rotRar s) rfl

@[simp] theorem perform_idle : perform idle s = s.withChain false :=
  perform_of_microStep (t := s.withChain false) (microStep_idle s) rfl
@[simp] theorem perform_sigStc : perform sigStc s = (s.withCY true).withChain false :=
  perform_of_microStep (t := (s.withCY true).withChain false) (microStep_sigStc s) rfl
@[simp] theorem perform_sigCmc : perform sigCmc s = (s.withCY (!s.cy)).withChain false :=
  perform_of_microStep (t := (s.withCY (!s.cy)).withChain false) (microStep_sigCmc s) rfl
@[simp] theorem perform_sigXchg : perform sigXchg s = ((s.setHL s.de).setDE s.hl).withChain false := by
  rw [perform_of_microStep (t := { s with h := s.d, l := s.e, d := s.h, e := s.l, chain := false }) (microStep_sigXchg s) rfl]
  apply State.ext <;> simp [State.hl, State.de]
@[simp] theorem perform_sigEi : perform sigEi s = (s.withInte true).withChain false :=
  perform_of_microStep (t := (s.withInte true).withChain false) (microStep_sigEi s) rfl
@[simp] theorem perform_sigDi : perform sigDi s = (s.withInte false).withChain false :=
  perform_of_microStep (t := (s.withInte false).withChain false) (microStep_sigDi s) rfl
@[simp] theorem perform_rstvec : perform rstvec s = (s.setPC (pairOf s.pch (s.ir &&& 0x38))).withChain false := by
  rw [perform_of_microStep (t := { s with pcl := s.ir &&& 0x38, chain := false }) (microStep_rstvec s) rfl]
  apply State.ext <;> simp

end words

/-! ### Sequences that the micro-programs share -/

section sequences

variable (s : State)

@[simp] theorem State.advance_updates (n : Nat) :
    s.advance n = (s.setPC (s.pc + BitVec.ofNat 16 n)).withChain (s.pc + BitVec.ofNat 16 n == 0) := rfl

theorem add_one_beq_zero (v : Addr) : (v + 1 == 0) = (v == 0xFFFF) := by
  rw [Bool.eq_iff_iff, beq_iff_eq, beq_iff_eq]
  bv_omega

theorem sub_one_beq_ones (v : Addr) : (v - 1 == 0xFFFF) = (v == 0) := by
  rw [Bool.eq_iff_iff, beq_iff_eq, beq_iff_eq]
  bv_omega

theorem performAll_adv : performAll adv s = s.advance 1 := by
  rw [adv, performAll_incl_inch rfl, State.advance_updates]
  exact congrArg (State.withChain _) (add_one_beq_zero s.pc).symm

theorem performAll_maInc : performAll maInc s = (s.setMA (s.ma + 1)).withChain (s.ma == 0xFFFF) := performAll_incl_inch rfl s

theorem performAll_incPair (p : Pair) :
    performAll [incl p.loSel, inch p.hiSel] s = (s.setPair p (s.getPair p + 1)).withChain (s.getPair p == 0xFFFF) := by
  cases p <;> exact performAll_incl_inch rfl s

theorem performAll_decPair (p : Pair) :
    performAll [decl p.loSel, dech p.hiSel] s = (s.setPair p (s.getPair p - 1)).withChain (s.getPair p == 0x0000) := by
  cases p <;> exact performAll_decl_dech rfl s

theorem perform_fetch_of_boundary (hs : s.step = 0) : perform fetch s = s.fetched (s.readByte s.pc) := by
  rw [perform_fetch, State.fetched, hs]

theorem performAll_prologue (hs : s.step = 0) : performAll prologue s = s.opening (s.readByte s.pc) 1 := by
  rw [prologue, performAll_cons, perform_fetch_of_boundary s hs, performAll_adv, State.opening]

/-- The two operand bytes of an address, low byte first. -/
theorem performAll_fetchMA (op : Byte) :
    performAll fetchMA (s.opening op 1) = (s.opening op 3).setMA (s.readWord (s.pc + 1)) := by
  simp only [fetchMA, List.cons_append, performAll_cons, performAll_append, performAll_adv]
  apply State.ext <;> simp [State.address, State.readWord, BitVec.add_assoc]

/-- A selectable register that a push or a pop may name: neither memory nor a half of SP. -/
structure StackSel (k : Sel) : Prop where
  ne_m : k ≠ .m
  ne_sph : k ≠ .sph
  ne_spl : k ≠ .spl

theorem stackSel_pch : StackSel .pch := ⟨by decide, by decide, by decide⟩
theorem stackSel_pcl : StackSel .pcl := ⟨by decide, by decide, by decide⟩
theorem stackSel_a : StackSel .a := ⟨by decide, by decide, by decide⟩
theorem stackSel_flags : StackSel .flags := ⟨by decide, by decide, by decide⟩
theorem stackSel_hiSel (p : StackPair) : StackSel p.pair.hiSel := by cases p <;> constructor <;> decide
theorem stackSel_loSel (p : StackPair) : StackSel p.pair.loSel := by cases p <;> constructor <;> decide

section stackSel

variable {k : Sel} (hk : StackSel k)

theorem State.source_withChain (v : Bool) (x : Addr) : (s.withChain v).source k x = s.source k x := by cases k <;> rfl

theorem State.latch_withChain (u : Bool) (x : Addr) (v : Byte) :
    (s.withChain u).latch k x v = (s.latch k x v).withChain u := by
  cases k <;> rfl

include hk

theorem State.source_setSP (v x y : Addr) : (s.setSP v).source k x = s.source k y := by
  cases k
  case m => exact absurd rfl hk.ne_m
  case sph => exact absurd rfl hk.ne_sph
  case spl => exact absurd rfl hk.ne_spl
  all_goals rfl

theorem State.source_writeByte (a x y : Addr) (v : Byte) : (s.writeByte a v).source k x = s.source k y := by
  cases k
  case m => exact absurd rfl hk.ne_m
  all_goals rfl

theorem State.latch_setSP (u x : Addr) (v : Byte) : (s.setSP u).latch k x v = (s.latch k x v).setSP u := by
  cases k
  case m => exact absurd rfl hk.ne_m
  case sph => exact absurd rfl hk.ne_sph
  case spl => exact absurd rfl hk.ne_spl
  all_goals rfl

theorem State.latch_sp (x : Addr) (v : Byte) : (s.latch k x v).sp = s.sp := by
  cases k
  case sph => exact absurd rfl hk.ne_sph
  case spl => exact absurd rfl hk.ne_spl
  all_goals rfl

theorem State.readByte_latch (x y : Addr) (v : Byte) : (s.latch k x v).readByte y = s.readByte y := by
  rw [State.latch_readByte, if_neg fun h => hk.ne_m h.1]

end stackSel

theorem performAll_spDec : performAll spDec s = (s.setSP (s.sp - 1)).withChain (s.sp == 0) := performAll_decPair s .sp

theorem performAll_spInc : performAll spInc s = (s.setSP (s.sp + 1)).withChain (s.sp + 1 == 0) := by
  rw [add_one_beq_zero]
  exact performAll_incPair s .sp

theorem State.setSP_withChain (u : Bool) (v : Addr) : (s.withChain u).setSP v = (s.setSP v).withChain u := rfl
theorem State.setSP_setSP (u v : Addr) : (s.setSP u).setSP v = s.setSP v := rfl
theorem State.withChain_withChain (u v : Bool) : (s.withChain u).withChain v = s.withChain v := rfl

section stack

variable {hi lo : Sel} (hhi : StackSel hi) (hlo : StackSel lo)
include hhi hlo

/-- R310: the high byte goes first, to SP - 1. -/
theorem performAll_pushSteps :
    performAll (pushSteps hi lo) s = (s.pushWord (pairOf (s.source hi 0) (s.source lo 0))).withChain false := by
  have htwo : s.sp - 1 - 1 = s.sp - 2 := by bv_omega
  simp only [pushSteps, List.append_assoc, List.cons_append, performAll_append, performAll_cons, performAll_nil,
    performAll_spDec, perform_st, State.address, State.source_withChain, State.source_writeByte _ hlo _ _ 0,
    State.source_setSP _ hlo _ _ 0, State.source_setSP _ hhi _ _ 0, State.pushWord, hiByte_pairOf, loByte_pairOf,
    State.withChain_sp, State.writeByte_sp, State.setSP_sp, htwo]
  rfl

/-- R312: the low byte comes first, from SP. -/
theorem performAll_popSteps :
    performAll (popSteps hi lo) s =
      ((s.latch lo s.sp (s.readByte s.sp)).latch hi (s.sp + 1) (s.readByte (s.sp + 1))).dropWord := by
  have htwo : s.sp + 1 + 1 = s.sp + 2 := by bv_omega
  simp only [popSteps, List.cons_append, performAll_append, performAll_cons,
    performAll_spInc, perform_ld, State.address, State.latch_withChain, State.latch_setSP _ hhi, State.dropWord,
    State.withChain_sp, State.setSP_sp, State.withChain_readByte, State.setSP_readByte, State.latch_sp _ hhi,
    State.latch_sp _ hlo, State.readByte_latch _ hlo, htwo,
    State.setSP_withChain, State.setSP_setSP, State.withChain_withChain]

end stack

section shared

variable {s : State} (hs : s.step = 0)
include hs

theorem performAll_jumpSteps :
    performAll jumpSteps s = (s.fetched (s.readByte s.pc)).jumpTo (s.readWord (s.pc + 1)) := by
  simp only [jumpSteps, List.append_assoc, List.cons_append, performAll_append, performAll_cons, performAll_nil,
    performAll_prologue s hs, performAll_adv]
  apply State.ext <;> simp [State.address, State.readWord, BitVec.add_assoc, State.source]

theorem performAll_callSteps :
    performAll callSteps s = (s.opening (s.readByte s.pc) 3).callTo (s.readWord (s.pc + 1)) := by
  simp only [callSteps, List.append_assoc, performAll_append, performAll_cons, performAll_nil, performAll_prologue s hs,
    performAll_fetchMA, performAll_pushSteps _ stackSel_pch stackSel_pcl]
  apply State.ext <;> simp [State.readWord, State.source]

theorem performAll_returnSteps : performAll returnSteps s = (s.fetched (s.readByte s.pc)).returnFrom := by
  rw [returnSteps, performAll_cons, perform_fetch_of_boundary s hs, performAll_popSteps _ stackSel_pch stackSel_pcl]
  apply State.ext <;> simp

end shared

end sequences

end Sys2Proof.Machine
end

section
/-! PROOFS. The micro-programs and the meanings: for every shape, what its micro-program does is its effect. -/

namespace Sys2Proof.Machine

open MicroOp

/-! ### What a named register drives -/

section sources

variable (s : State) (x : Addr)

@[simp] theorem State.source_a : s.source .a x = s.a := rfl
@[simp] theorem State.source_h : s.source .h x = s.h := rfl
@[simp] theorem State.source_l : s.source .l x = s.l := rfl
@[simp] theorem State.source_pch : s.source .pch x = s.pch := rfl
@[simp] theorem State.source_pcl : s.source .pcl x = s.pcl := rfl
@[simp] theorem State.source_mah : s.source .mah x = s.mah := rfl
@[simp] theorem State.source_mal : s.source .mal x = s.mal := rfl
@[simp] theorem State.source_flags : s.source .flags x = s.flagByte := rfl

@[simp] theorem State.source_hiSel (p : Pair) : s.source p.hiSel x = hiByte (s.getPair p) := by
  cases p <;> exact (hiByte_pairOf _ _).symm

@[simp] theorem State.source_loSel (p : Pair) : s.source p.loSel x = loByte (s.getPair p) := by
  cases p <;> exact (loByte_pairOf _ _).symm

end sources

/-! ### Facts about the operations that the micro-programs chain -/

theorem byte_eq_ones_iff (x : Byte) : x = 255#8 ↔ x + 1#8 = 0#8 := by bv_omega

theorem addr_eq_ones_iff (v : Addr) : v = 65535#16 ↔ v + 1#16 = 0#16 := by bv_omega

theorem byte_eq_zero_iff (x : Byte) : x = 0#8 ↔ x - 1#8 = 255#8 := by bv_omega

/-- No accumulator operation reads CHAIN, so the advance after an operand byte does not matter. -/
theorem alu_accOp_chain (o : AccOp) (a x : Byte) (cy ch ch' : Bool) : alu o.alu a x cy ch = alu o.alu a x cy ch' := by
  cases o <;> rfl

theorem xor_ones_eq_not (x : Byte) : x ^^^ 255#8 = ~~~x := BitVec.xor_allOnes

/-- A doubled byte is even, so the second word of the circular rotate does not carry. -/
theorem alu_inch_add_self_carry (a b : Byte) (cy cy' ch ch' : Bool) :
    (alu .inch b (alu .add a a cy ch).1 cy' ch').2 = false := by
  have hch := ch'.toNat_lt
  rw [alu_inch_carry, alu_add_toNat]
  exact decide_eq_false (by omega)

theorem setWidth_sum (v u : Addr) : (v.setWidth 17 + u.setWidth 17).setWidth 16 = v + u := by
  refine BitVec.eq_of_toNat_eq ?_
  simp only [BitVec.toNat_setWidth, BitVec.toNat_add]
  omega

theorem getElem_sum (v u : Addr) : (v.setWidth 17 + u.setWidth 17)[16] = decide (65536 ≤ v.toNat + u.toNat) := by
  rw [← BitVec.getLsbD_eq_getElem, ← BitVec.msb_eq_getLsbD_last, BitVec.msb_eq_decide, decide_eq_decide,
    BitVec.toNat_add, BitVec.toNat_setWidth, BitVec.toNat_setWidth]
  have hv := v.isLt
  have hu := u.isLt
  omega

section sequences

variable (s : State)

@[simp] theorem State.hiByte_readWord (v : Addr) : hiByte (s.readWord v) = s.readByte (v + 1#16) := hiByte_pairOf _ _
@[simp] theorem State.loByte_readWord (v : Addr) : loByte (s.readWord v) = s.readByte v := loByte_pairOf _ _
@[simp] theorem State.opening_flagByte (op : Byte) (n : Nat) : (s.opening op n).flagByte = s.flagByte := rfl

theorem State.readWord_operand :
    s.readWord (s.pc + 1#16) = pairOf (s.readByte (s.pc + 2#16)) (s.readByte (s.pc + 1#16)) := by
  rw [State.readWord, BitVec.add_assoc]
  rfl

@[simp] theorem State.hiByte_hl : hiByte s.hl = s.h := hiByte_pairOf _ _
@[simp] theorem State.loByte_hl : loByte s.hl = s.l := loByte_pairOf _ _
@[simp] theorem State.hiByte_sp : hiByte s.sp = s.sph := hiByte_pairOf _ _
@[simp] theorem State.loByte_sp : loByte s.sp = s.spl := loByte_pairOf _ _

@[simp] theorem State.getPair_setReg_a (v : Byte) (p : Pair) : (s.setReg .a v).getPair p = s.getPair p := by cases p <;> rfl

theorem State.hiByte_getPair_setReg_l (v : Byte) (p : Pair) :
    hiByte ((s.setReg .l v).getPair p) = hiByte (s.getPair p) := by
  cases p <;> simp [State.getPair, State.bc, State.de]

/-- R252: the words of DAD after the opening. A goes through MAL, and the carry of the low sum through CY. -/
theorem performAll_dad (p : Pair) :
    performAll [mov .mal .a, mov .a .l, addc .l p.loSel, mov .a .h, adcc .h p.hiSel, mov .a .mal] s =
      (((s.setMAL s.a).setHL (s.hl + s.getPair p)).withCY
        (decide (65536 ≤ s.hl.toNat + (s.getPair p).toNat))).withChain false := by
  have hsum := pairOf_adc_add s.hl (s.getPair p) s.cy false false
  have hcarry := adc_add_carry s.hl (s.getPair p) s.cy false false
  simp only [State.hiByte_hl, State.loByte_hl] at hsum hcarry
  simp [← hsum, ← hcarry, State.hiByte_getPair_setReg_l, State.ext_iff]

/-- R260: the words of RLC after the opening. -/
theorem performAll_rlc :
    performAll [rotRlc1, rotRlc2] s =
      ((s.setReg .a (s.a.extractLsb' 0 7 ++ BitVec.ofBool (s.a.getLsbD 7))).withCY (s.a.getLsbD 7)).withChain false := by
  have hcarry := alu_add_self_carry s.a s.cy s.chain
  simpa [State.ext_iff, alu_inch_add_self, alu_inch_add_self_carry, rotateLeft_one] using hcarry

/-- R264: the words of CMA after the opening. MAL holds the mask of ones. -/
theorem performAll_cma :
    performAll [clr .mal, decl .mal, xornf .mal] s = ((s.setMAL 0xFF).setReg .a (~~~s.a)).withChain false := by
  simp [State.ext_iff, perform_decl, alu, xor_ones_eq_not]

end sequences

/-- From a boundary, the micro-program of the fetched opcode has the effect of its shape: each sequence of words is followed
from the opening on, and the two states agree field by field. -/
theorem performAll_microProgram {s : State} (hs : s.step = 0) {sh : Shape} (hop : s.readByte s.pc = sh.opcode) :
    performAll (microProgram sh (s.takes sh)) s = sh.effect (s.readByte (s.pc + 1)) (s.readByte (s.pc + 2)) s := by
  have hp := performAll_prologue s hs
  rw [hop] at hp
  cases sh
  case movRR | xchg | accR | daa | nop | undoc | rrc | ral | rar | stc | cmc | ei | di =>
    simp [microProgram, hp, Shape.effect]
  case movRM | movMR | accM => simp [microProgram, hp, Shape.effect, State.address]
  case mviR | mviM =>
    simp [microProgram, hp, Shape.effect, State.address, performAll_adv, BitVec.add_assoc, State.ext_iff]
  case inPort | outPort => simp [microProgram, hp, Shape.effect, performAll_adv, BitVec.add_assoc, State.ext_iff]
  case lxi p =>
    cases p <;> simp [microProgram, hp, Shape.effect, State.address, performAll_adv, BitVec.add_assoc, State.ext_iff,
      Pair.loSel, Pair.hiSel, State.setPair]
  case lda | sta => simp [microProgram, hp, Shape.effect, State.address, performAll_fetchMA, State.readWord_operand]
  case lhld | shld =>
    simp [microProgram, hp, Shape.effect, State.address, performAll_fetchMA, performAll_maInc, State.readWord_operand,
      State.ext_iff]
  case ldax | stax | inrM | dcrM => simp [microProgram, hp, Shape.effect, State.address, State.ext_iff]
  case accI o =>
    have hchain := fun a x cy => alu_accOp_chain o a x cy (s.pc + 1#16 == 0#16) (s.pc + 2#16 == 0#16)
    simp [microProgram, hp, Shape.effect, State.address, performAll_adv, BitVec.add_assoc, State.ext_iff, hchain]
  case inrR => simp [microProgram, hp, Shape.effect, State.ext_iff, byte_eq_ones_iff]
  case dcrR => simp [microProgram, hp, Shape.effect, State.ext_iff, byte_eq_zero_iff]
  case inx p =>
    rw [microProgram, performAll_append, hp, performAll_incPair, ← add_one_beq_zero]
    simp [Shape.effect]
  case dcx p =>
    rw [microProgram, performAll_append, hp, performAll_decPair, ← sub_one_beq_ones]
    simp [Shape.effect]
  case dad p =>
    rw [microProgram, performAll_append, hp, performAll_dad]
    simp [Shape.effect, setWidth_sum, getElem_sum]
  case rlc =>
    rw [microProgram, performAll_append, hp, performAll_rlc]
    simp [Shape.effect]
  case cma =>
    rw [microProgram, performAll_append, hp, performAll_cma]
    simp [Shape.effect]
  case jmp => simp [microProgram, Shape.effect, performAll_jumpSteps hs, hop, State.readWord_operand]
  case call => simp [microProgram, Shape.effect, performAll_callSteps hs, hop, State.readWord_operand]
  case ret => simp [microProgram, Shape.effect, performAll_returnSteps hs, hop]
  case jcc cc =>
    cases hcc : s.holds cc
    · simp [microProgram, hp, Shape.effect, State.takes, hcc, performAll_adv, BitVec.add_assoc, State.ext_iff]
    · simp [microProgram, Shape.effect, State.takes, hcc, performAll_jumpSteps hs, hop, State.readWord_operand]
  case ccc cc =>
    cases hcc : s.holds cc
    · simp [microProgram, hp, Shape.effect, State.takes, hcc, performAll_adv, BitVec.add_assoc, State.ext_iff]
    · simp [microProgram, Shape.effect, State.takes, hcc, performAll_callSteps hs, hop, State.readWord_operand]
  case rcc cc =>
    cases hcc : s.holds cc
    · simp [microProgram, hp, Shape.effect, State.takes, hcc]
    · simp [microProgram, Shape.effect, State.takes, hcc, performAll_returnSteps hs, hop]
  case rst n =>
    simp [microProgram, hp, Shape.effect, performAll_pushSteps _ stackSel_pch stackSel_pcl, restartVector, State.ext_iff]
  case push p => simp [microProgram, hp, Shape.effect, performAll_pushSteps _ (stackSel_hiSel p) (stackSel_loSel p)]
  case pushPsw => simp [microProgram, hp, Shape.effect, performAll_pushSteps _ stackSel_a stackSel_flags]
  case pop p =>
    rw [microProgram, performAll_append, hp, performAll_popSteps _ (stackSel_hiSel p) (stackSel_loSel p)]
    cases p <;> simp [Shape.effect, StackPair.pair, Pair.loSel, Pair.hiSel, State.setPair, State.topWord, State.readWord,
      State.ext_iff]
  case popPsw =>
    simp [microProgram, hp, Shape.effect, performAll_popSteps _ stackSel_a stackSel_flags, State.topWord, State.readWord]
  case xthl =>
    simp [microProgram, hp, Shape.effect, State.address, performAll_spInc, performAll_spDec, State.topWord, State.readWord,
      State.readByte_writeByte, State.ext_iff, addr_eq_ones_iff]
  case sphl => simp [microProgram, hp, Shape.effect, State.hl, State.ext_iff]
  case pchl => simp [microProgram, Shape.effect, perform_fetch_of_boundary s hs, hop, State.ext_iff, State.hl]
  case hlt => simp [microProgram, Shape.effect, perform_fetch_of_boundary s hs, hop, State.ext_iff]

/-- From a boundary, the micro-program of the instruction at PC leads where its meaning does. -/
theorem performAll_program {s : State} (hs : s.step = 0) : performAll s.program s = s.afterInstr :=
  performAll_microProgram hs (opcode_shapeOf _).symm

end Sys2Proof.Machine

namespace Sys2Proof

open Machine

/-- Settles O24: inside an instruction a step is the run of the clocks by definition; at a boundary the run performs the
micro-program, which has the effect of the shape. -/
theorem microcodeRefinesMeaning : Obligations.MicrocodeRefinesMeaning := by
  intro s
  by_cases hs : s.step = 0
  · rw [microInstruction_of_boundary hs, performAll_program hs, step_of_boundary hs]
  · rw [step, if_neg hs]

/-- Settles O25: the clocks of an instruction are the steps of its micro-program. -/
theorem stepCounts : Obligations.StepCounts := by
  intro s hs
  have hrun : ∀ k ≤ s.program.length, runClocks k s = .next (s.during k) := fun k hk => by
    have hfrom := runClocks_during hs (k := 0) (j := k) (by omega)
    rwa [State.during_zero hs, Nat.zero_add] at hfrom
  dsimp only
  rw [← State.shape, ← State.length_program]
  refine ⟨?_, fun k _ hk => ⟨s.during k, hrun k hk.le, State.during_step hk⟩⟩
  rw [hrun _ le_rfl, State.during_length hs, performAll_program hs, step_of_boundary hs]

end Sys2Proof
end

section
/-! PROOFS. The memory accesses of an instruction: those of the words of the library, of the sequences that the
micro-programs share, and of every micro-program. -/

namespace Sys2Proof.Machine

open MicroOp

/-! ### Words -/

@[simp] theorem sel_ne_m (r : Reg) : r.sel ≠ .m := by cases r <;> decide
@[simp] theorem loSel_ne_m (p : Pair) : p.loSel ≠ .m := by cases p <;> decide
@[simp] theorem hiSel_ne_m (p : Pair) : p.hiSel ≠ .m := by cases p <;> decide

section words

variable (s : State)

/-- A word between registers makes no access. -/
theorem microAccesses_of_quiet {u : ControlWord} (hsrc : u.src ≠ .m) (hdst : u.dst ≠ .m) : microAccesses u s = [] := by
  simp [microAccesses, hsrc, hdst]

theorem microAccesses_of_load {u : ControlWord} (hsrc : u.src = .m) (hdst : u.dst ≠ .m) :
    microAccesses u s = [s.reads (s.address u.adr)] := by
  simp [microAccesses, hsrc, hdst, State.reads]

@[simp] theorem microAccesses_fetch : microAccesses fetch s = [s.reads s.pc] := rfl

@[simp] theorem microAccesses_ld {dst : Sel} (h : dst ≠ .m) (p : AdrSrc) :
    microAccesses (ld dst p) s = [s.reads (s.address p)] :=
  microAccesses_of_load s rfl h

@[simp] theorem microAccesses_mov {dst src : Sel} (hsrc : src ≠ .m) (hdst : dst ≠ .m) :
    microAccesses (mov dst src) s = [] :=
  microAccesses_of_quiet s hsrc hdst

@[simp] theorem microAccesses_inrM {dst : Sel} (h : dst ≠ .m) (p : AdrSrc) :
    microAccesses (inrM dst p) s = [s.reads (s.address p)] :=
  microAccesses_of_load s rfl h

@[simp] theorem microAccesses_dcrM {dst : Sel} (h : dst ≠ .m) (p : AdrSrc) :
    microAccesses (dcrM dst p) s = [s.reads (s.address p)] :=
  microAccesses_of_load s rfl h

@[simp] theorem microAccesses_accM (op : AccOp) (p : AdrSrc) : microAccesses (accM op p) s = [s.reads (s.address p)] :=
  microAccesses_of_load s rfl (by simp [accM])

@[simp] theorem microAccesses_st {src : Sel} (h : src ≠ .m) (p : AdrSrc) :
    microAccesses (st p src) s = [.write (s.address p) (s.source src (s.address p))] := by
  cases src
  case m => exact absurd rfl h
  all_goals rfl

/-- A sequence of words between registers makes no access. -/
theorem accessesOf_of_quiet {seq : List ControlWord} (h : ∀ u ∈ seq, u.src ≠ .m ∧ u.dst ≠ .m) :
    accessesOf seq s = [] := by
  induction seq generalizing s with
  | nil => rfl
  | cons u rest ih =>
    rw [List.forall_mem_cons] at h
    rw [accessesOf_cons, microAccesses_of_quiet s h.1.1 h.1.2, ih _ h.2, List.append_nil]

end words

/-! ### Sequences that the micro-programs share -/

section sequences

variable (s : State)

@[simp] theorem State.codeReads_one : s.codeReads 1 = [s.reads s.pc] := by simp [State.codeReads]
@[simp] theorem State.codeReads_two : s.codeReads 2 = [s.reads s.pc, s.reads (s.pc + 1#16)] := by
  simp [State.codeReads, List.range_succ]
@[simp] theorem State.codeReads_three :
    s.codeReads 3 = [s.reads s.pc, s.reads (s.pc + 1#16), s.reads (s.pc + 2#16)] := by
  simp [State.codeReads, List.range_succ]

@[simp] theorem accessesOf_adv : accessesOf adv s = [] := accessesOf_of_quiet s (by decide)
@[simp] theorem accessesOf_maInc : accessesOf maInc s = [] := accessesOf_of_quiet s (by decide)
@[simp] theorem accessesOf_spInc : accessesOf spInc s = [] := accessesOf_of_quiet s (by decide)
@[simp] theorem accessesOf_spDec : accessesOf spDec s = [] := accessesOf_of_quiet s (by decide)

@[simp] theorem accessesOf_prologue : accessesOf prologue s = [s.reads s.pc] := by simp [prologue]

@[simp] theorem accessesOf_fetchMA (op : Byte) :
    accessesOf fetchMA (s.opening op 1) = [s.reads (s.pc + 1#16), s.reads (s.pc + 2#16)] := by
  simp [fetchMA, performAll_adv, State.address, State.reads, BitVec.add_assoc]

section stack

variable {hi lo : Sel} (hhi : StackSel hi) (hlo : StackSel lo)
include hhi hlo

theorem accessesOf_pushSteps :
    accessesOf (pushSteps hi lo) s = s.pushes (pairOf (s.source hi 0) (s.source lo 0)) := by
  have htwo : s.sp - 1 - 1 = s.sp - 2 := by bv_omega
  simp only [pushSteps, List.append_assoc, List.cons_append, accessesOf_append, accessesOf_cons, accessesOf_nil,
    accessesOf_spDec, microAccesses_st _ hhi.ne_m, microAccesses_st _ hlo.ne_m, performAll_spDec, perform_st, State.address,
    State.source_withChain, State.source_writeByte _ hlo _ _ 0, State.source_setSP _ hlo _ _ 0,
    State.source_setSP _ hhi _ _ 0, State.withChain_sp, State.writeByte_sp, State.setSP_sp, htwo, State.pushes, hiByte_pairOf,
    loByte_pairOf]
  rfl

theorem accessesOf_popSteps : accessesOf (popSteps hi lo) s = s.pops := by
  simp only [popSteps, List.cons_append, accessesOf_append, accessesOf_cons, accessesOf_spInc,
    performAll_spInc, perform_ld, microAccesses_ld _ hhi.ne_m, microAccesses_ld _ hlo.ne_m, State.address,
    State.withChain_sp, State.setSP_sp, State.reads, State.withChain_readByte, State.setSP_readByte, State.latch_sp _ hlo,
    State.readByte_latch _ hlo, State.pops]
  rfl

end stack

section shared

variable {s : State} (hs : s.step = 0)
include hs

theorem accessesOf_jumpSteps : accessesOf jumpSteps s = s.codeReads 3 := by
  have hp := performAll_prologue s hs
  simp [jumpSteps, hp, performAll_adv, State.address, State.reads, BitVec.add_assoc]

theorem accessesOf_callSteps : accessesOf callSteps s = s.codeReads 3 ++ s.pushes (s.pc + 3) := by
  have hp := performAll_prologue s hs
  simp [callSteps, hp, performAll_fetchMA, accessesOf_pushSteps _ stackSel_pch stackSel_pcl, State.pushes]

theorem accessesOf_returnSteps : accessesOf returnSteps s = s.codeReads 1 ++ s.pops := by
  simp [returnSteps, perform_fetch_of_boundary s hs, accessesOf_popSteps _ stackSel_pch stackSel_pcl, State.pops,
    State.reads]

end shared

end sequences

/-- From a boundary, the micro-program of a shape makes the accesses that the rule of the instruction lists. -/
theorem accessesOf_microProgram {s : State} (hs : s.step = 0) (sh : Shape) :
    accessesOf (microProgram sh (s.takes sh)) s = documentedAccesses sh s := by
  have hp := performAll_prologue s hs
  have hquiet : ∀ {seq : List ControlWord}, (∀ u ∈ seq, u.src ≠ .m ∧ u.dst ≠ .m) →
      accessesOf (prologue ++ seq) s = s.codeReads 1 := fun h => by
    rw [accessesOf_append, accessesOf_prologue, accessesOf_of_quiet _ h, State.codeReads_one, List.append_nil]
  cases sh
  case movRR => exact hquiet (by simp [mov])
  case accR => exact hquiet (by simp [acc])
  case inrR => exact hquiet (by simp [inr])
  case dcrR => exact hquiet (by simp [dcr])
  case inx => exact hquiet (by simp [incl, inch])
  case dcx => exact hquiet (by simp [decl, dech])
  case dad => exact hquiet (by simp [mov, addc, adcc])
  case xchg | rlc | rrc | ral | rar | cma | stc | cmc | sphl | inPort | outPort | ei | di => exact hquiet (by decide)
  case daa | nop | undoc => exact (accessesOf_prologue s).trans s.codeReads_one.symm
  case hlt => simp [microProgram, documentedAccesses, microAccesses_of_quiet, idle]
  case movMR => simp [microProgram, documentedAccesses, hp, State.address]
  case movRM | mviR | ldax | stax | accM | accI | inrM | dcrM =>
    simp [microProgram, documentedAccesses, hp, State.address, State.reads]
  case mviM => simp [microProgram, documentedAccesses, hp, State.address, State.reads, performAll_adv]
  case lxi p =>
    cases p <;> simp [microProgram, documentedAccesses, hp, State.address, State.reads, performAll_adv, Pair.loSel,
      Pair.hiSel, BitVec.add_assoc]
  case lda | sta =>
    simp [microProgram, documentedAccesses, hp, State.address, State.reads, performAll_fetchMA, State.readWord_operand]
  case lhld | shld =>
    simp [microProgram, documentedAccesses, hp, State.address, State.reads, performAll_fetchMA, performAll_maInc,
      State.readWord_operand]
  case pchl => simp [microProgram, documentedAccesses]
  case jmp => exact accessesOf_jumpSteps hs
  case call => exact accessesOf_callSteps hs
  case ret => exact accessesOf_returnSteps hs
  case jcc cc =>
    cases hcc : s.holds cc
    · simp [microProgram, documentedAccesses, State.takes, hcc]
    · simp only [microProgram, documentedAccesses, State.takes, hcc, if_true, accessesOf_jumpSteps hs]
  case ccc cc =>
    cases hcc : s.holds cc
    · simp [microProgram, documentedAccesses, State.takes, hcc]
    · simp only [microProgram, documentedAccesses, State.takes, hcc, if_true, accessesOf_callSteps hs]
  case rcc cc =>
    cases hcc : s.holds cc
    · simp [microProgram, documentedAccesses, State.takes, hcc]
    · simp only [microProgram, documentedAccesses, State.takes, hcc, if_true, accessesOf_returnSteps hs]
  case rst n =>
    simp [microProgram, documentedAccesses, hp, accessesOf_pushSteps _ stackSel_pch stackSel_pcl, State.pushes,
      microAccesses_of_quiet, clr, rstvec]
  case push p =>
    simp [microProgram, documentedAccesses, hp, accessesOf_pushSteps _ (stackSel_hiSel p) (stackSel_loSel p), State.pushes]
  case pushPsw =>
    simp [microProgram, documentedAccesses, hp, accessesOf_pushSteps _ stackSel_a stackSel_flags, State.pushes]
  case pop p =>
    simp [microProgram, documentedAccesses, hp, accessesOf_popSteps _ (stackSel_hiSel p) (stackSel_loSel p), State.pops,
    State.reads]
  case popPsw =>
    simp [microProgram, documentedAccesses, hp, accessesOf_popSteps _ stackSel_a stackSel_flags, State.pops, State.reads]
  case xthl =>
    simp [microProgram, documentedAccesses, hp, State.address, State.reads, performAll_spInc,
      State.readByte_writeByte]

end Sys2Proof.Machine

namespace Sys2Proof

open Machine

/-- Settles O26: the clocks perform the micro-program, which makes the accesses of its rule. -/
theorem documentedAccesses : Obligations.DocumentedAccesses := by
  intro s hs
  dsimp only
  rw [← State.shape, ← State.length_program, clockAccesses_of_boundary hs]
  exact accessesOf_microProgram hs _

end Sys2Proof
end

section
/-! PROOFS. Results and completion of the instruction families: the effect of each shape, register by register. The frames
come from the lemmas about all shapes; what is left is computed from the named updates. -/

namespace Sys2Proof.Machine

/-! ### Completion and frames of a shape -/

section frames

variable (sh : Shape) (lo hi : Byte) (s : State)

/-- Every shape completes, with the CHAIN that its effect leaves. -/
theorem completes_effect {chain : Bool} (h : (sh.effect lo hi s).chain = chain) :
    Completes (sh.instr lo hi) s (sh.effect lo hi s) chain :=
  ⟨exec_instr sh lo hi s, effect_step s sh lo hi, by rw [effect_ir, opcode_instr], h⟩

theorem effect_keepsMemory_of_stores {l : List Addr} (h : storeAddresses (sh.instr lo hi) s = l) :
    KeepsMemory s (sh.effect lo hi s) l :=
  h ▸ effect_keepsMemory s sh lo hi

theorem forall_addr {P : Addr → Prop} (h : ∀ hi lo, P (pairOf hi lo)) (v : Addr) : P v :=
  pairOf_hiByte_loByte v ▸ h (hiByte v) (loByte v)

end frames

/-! ### Rotates of a byte and of the nine bits CY:A -/

section rotates

variable (a x : Byte) (cy ch : Bool)

/-- A byte shifted left with a bit entering at bit 0. -/
theorem getLsbD_shiftInLow (v : Bool) {i : Nat} (hi : i < 8) :
    (x.extractLsb' 0 7 ++ BitVec.ofBool v).getLsbD i = if i = 0 then v else x.getLsbD (i - 1) := by
  rw [BitVec.getLsbD_append, BitVec.getLsbD_ofBool, BitVec.getLsbD_extractLsb']
  by_cases h : i = 0
  · subst h; simp
  · have hpos : ¬i < 1 := by omega
    have hlt : i - 1 < 7 := by omega
    simp [h, hpos, hlt]

/-- A bit of the nine bits CY:A. -/
theorem getLsbD_nine (v : Bool) (i : Nat) :
    (BitVec.ofBool v ++ x).getLsbD i = if i < 8 then x.getLsbD i else (decide (i = 8) && v) := by
  rw [BitVec.getLsbD_append, BitVec.getLsbD_ofBool]
  by_cases h : i < 8
  · simp [h]
  · have heq : i - 8 = 0 ↔ i = 8 := by omega
    simp [h, heq]

theorem alu_rrc : alu .rrc a x cy ch = (x.rotateRight 1, x.getLsbD 0) := by
  refine Prod.ext (BitVec.eq_of_getLsbD_eq fun i hi => ?_) rfl
  rw [alu, getLsbD_shiftIn _ _ hi, BitVec.getLsbD_rotateRight]
  by_cases h : i = 7
  · subst h; simp
  · have hlt : i < 8 - 1 % 8 := by omega
    simp [h, hlt, Nat.add_comm]

theorem rotateLeft_nine :
    BitVec.ofBool a[7] ++ (alu .adc a a cy ch).1 = (BitVec.ofBool cy ++ a).rotateLeft 1 := by
  refine BitVec.eq_of_getLsbD_eq fun i hi => ?_
  rw [alu_adc_self, BitVec.getLsbD_rotateLeft, getLsbD_nine, getLsbD_nine, getLsbD_nine]
  by_cases h : i < 8
  · rw [getLsbD_shiftInLow _ _ h]
    interval_cases i <;> simp
  · have heq : i = 8 := by omega
    subst heq
    simp

theorem rotateRight_nine :
    BitVec.ofBool x[0] ++ (alu .rar a x cy ch).1 = (BitVec.ofBool cy ++ x).rotateRight 1 := by
  refine BitVec.eq_of_getLsbD_eq fun i hi => ?_
  rw [alu, BitVec.getLsbD_rotateRight, getLsbD_nine, getLsbD_nine, getLsbD_nine]
  by_cases h : i < 8
  · rw [getLsbD_shiftIn _ _ h]
    interval_cases i <;> simp
  · have heq : i = 8 := by omega
    subst heq
    simp

theorem alu_rar_carry : (alu .rar a x cy ch).2 = x.getLsbD 0 := rfl

theorem alu_adc_self_carry : (alu .adc a a cy ch).2 = a.getLsbD 7 := by rw [alu_adc_self]

end rotates

end Sys2Proof.Machine

namespace Sys2Proof

open Machine

/-- Settles O40. -/
theorem registerMoves : Obligations.RegisterMoves := by
  refine ⟨fun dst src s => ⟨_, completes_effect (.movRR dst src) 0 0 s ?_, ?_, effect_keepsRegs s _ _ _, ?_, ?_, ?_,
      effect_keepsFlags s rfl rfl _ _, ?_, effect_keepsMemory_of_stores _ _ _ s ?_⟩,
    fun dst d8 s => ⟨_, completes_effect (.mviR dst) d8 0 s ?_, ?_, effect_keepsRegs s _ _ _, ?_, ?_, ?_,
      effect_keepsFlags s rfl rfl _ _, ?_, effect_keepsMemory_of_stores _ _ _ s ?_⟩⟩ <;>
  simp [Shape.effect, storeAddresses]

/-- Settles O41. -/
theorem memoryLoads : Obligations.MemoryLoads := by
  refine ⟨fun dst s => ⟨_, completes_effect (.movRM dst) 0 0 s ?_, ?_, effect_keepsRegs s _ _ _, ?_, ?_, ?_,
      effect_keepsFlags s rfl rfl _ _, ?_, effect_keepsMemory_of_stores _ _ _ s ?_⟩,
    forall_addr fun hi lo s => ⟨_, completes_effect .lda lo hi s ?_, ?_, effect_keepsRegs s _ _ _, ?_, ?_, ?_,
      effect_keepsFlags s rfl rfl _ _, ?_, effect_keepsMemory_of_stores _ _ _ s ?_⟩,
    fun p s => ⟨_, completes_effect (.ldax p) 0 0 s ?_, ?_, effect_keepsRegs s _ _ _, ?_, ?_, ?_,
      effect_keepsFlags s rfl rfl _ _, ?_, effect_keepsMemory_of_stores _ _ _ s ?_⟩,
    forall_addr fun hi lo s => ⟨_, completes_effect .lhld lo hi s ?_, ?_, ?_, effect_keepsRegs s _ _ _, ?_, ?_, ?_,
      effect_keepsFlags s rfl rfl _ _, ?_, effect_keepsMemory_of_stores _ _ _ s ?_⟩⟩ <;>
  simp [Shape.effect, storeAddresses]

/-- Settles O42. -/
theorem memoryStores : Obligations.MemoryStores := by
  refine ⟨fun src s => ⟨_, completes_effect (.movMR src) 0 0 s ?_, ?_, effect_keepsMemory_of_stores _ _ _ s ?_, ?_, ?_,
      effect_keepsRegs s _ _ _, ?_, effect_keepsFlags s rfl rfl _ _, ?_⟩,
    fun d8 s => ⟨_, completes_effect .mviM d8 0 s ?_, ?_, effect_keepsMemory_of_stores _ _ _ s ?_, ?_, ?_, ?_,
      effect_keepsRegs s _ _ _, ?_, effect_keepsFlags s rfl rfl _ _, ?_⟩,
    forall_addr fun hi lo s => ⟨_, completes_effect .sta lo hi s ?_, ?_, effect_keepsMemory_of_stores _ _ _ s ?_, ?_, ?_,
      effect_keepsRegs s _ _ _, ?_, effect_keepsFlags s rfl rfl _ _, ?_⟩,
    fun p s => ⟨_, completes_effect (.stax p) 0 0 s ?_, ?_, effect_keepsMemory_of_stores _ _ _ s ?_, ?_, ?_,
      effect_keepsRegs s _ _ _, ?_, effect_keepsFlags s rfl rfl _ _, ?_⟩,
    forall_addr fun hi lo s => ⟨_, completes_effect .shld lo hi s ?_, ?_, ?_, effect_keepsMemory_of_stores _ _ _ s ?_, ?_, ?_,
      effect_keepsRegs s _ _ _, ?_, effect_keepsFlags s rfl rfl _ _, ?_⟩⟩ <;>
  simp [Shape.effect, storeAddresses, operand16_instr (sh := .sta) rfl, operand16_instr (sh := .shld) rfl,
    State.readByte_writeByte]

/-- Settles O43. -/
theorem pairMoves : Obligations.PairMoves := by
  refine ⟨fun p => forall_addr fun hi lo s => ⟨_, completes_effect (.lxi p) lo hi s ?_,
      fun q => by simp [Shape.effect, eq_comm (a := q)], ?_, ?_, ?_,
      effect_keepsFlags s rfl rfl _ _, ?_, effect_keepsMemory_of_stores _ _ _ s ?_⟩,
    fun s => ⟨_, completes_effect .xchg 0 0 s ?_, ?_, ?_, effect_keepsRegs s _ _ _, ?_, ?_, ?_,
      effect_keepsFlags s rfl rfl _ _, ?_, effect_keepsMemory_of_stores _ _ _ s ?_⟩,
    fun s => ⟨_, completes_effect .sphl 0 0 s ?_, ?_, effect_keepsRegs s _ _ _, ?_, ?_,
      effect_keepsFlags s rfl rfl _ _, ?_, effect_keepsMemory_of_stores _ _ _ s ?_⟩⟩ <;>
  simp [Shape.effect, storeAddresses]

/-- Settles O50. -/
theorem rotates : Obligations.Rotates := by
  refine fun s => ⟨⟨_, completes_effect .rlc 0 0 s ?_, ?_, ?_, ?_, ?_, effect_keepsRegs s _ _ _, ?_, ?_, ?_, ?_,
      effect_keepsMemory_of_stores _ _ _ s ?_⟩,
    ⟨_, completes_effect .rrc 0 0 s ?_, ?_, ?_, ?_, ?_, effect_keepsRegs s _ _ _, ?_, ?_, ?_, ?_,
      effect_keepsMemory_of_stores _ _ _ s ?_⟩,
    ⟨_, completes_effect .ral 0 0 s ?_, ?_, ?_, ?_, effect_keepsRegs s _ _ _, ?_, ?_, ?_, ?_,
      effect_keepsMemory_of_stores _ _ _ s ?_⟩,
    ⟨_, completes_effect .rar 0 0 s ?_, ?_, ?_, ?_, effect_keepsRegs s _ _ _, ?_, ?_, ?_, ?_,
      effect_keepsMemory_of_stores _ _ _ s ?_⟩⟩ <;>
  simp [Shape.effect, storeAddresses, rotateLeft_one, alu_rrc, rotateLeft_nine, rotateRight_nine, alu_adc_self_carry,
    alu_rar_carry]

/-- Settles O51. -/
theorem singleBitOperations : Obligations.SingleBitOperations := by
  refine fun s => ⟨⟨_, completes_effect .cma 0 0 s ?_, ?_, effect_keepsFlags s rfl rfl _ _, ?_, ?_, ?_,
      effect_keepsRegs s _ _ _, ?_, ?_, effect_keepsMemory_of_stores _ _ _ s ?_⟩,
    ⟨_, completes_effect .stc 0 0 s ?_, ?_, ?_, ?_, ?_, effect_keepsRegs s _ _ _, ?_, ?_, ?_,
      effect_keepsMemory_of_stores _ _ _ s ?_⟩,
    ⟨_, completes_effect .cmc 0 0 s ?_, ?_, ?_, ?_, ?_, effect_keepsRegs s _ _ _, ?_, ?_, ?_,
      effect_keepsMemory_of_stores _ _ _ s ?_⟩,
    ⟨_, completes_effect .ei 0 0 s ?_, ?_, effect_keepsFlags s rfl rfl _ _, effect_keepsRegs s _ _ _, ?_, ?_, ?_,
      effect_keepsMemory_of_stores _ _ _ s ?_⟩,
    ⟨_, completes_effect .di 0 0 s ?_, ?_, effect_keepsFlags s rfl rfl _ _, effect_keepsRegs s _ _ _, ?_, ?_, ?_,
      effect_keepsMemory_of_stores _ _ _ s ?_⟩⟩ <;>
  simp [Shape.effect, storeAddresses]

/-- Settles O57. -/
theorem exchangeTop : Obligations.ExchangeTop := by
  refine fun s => ⟨_, completes_effect .xthl 0 0 s ?_, ?_, ?_, ?_, ?_, effect_keepsRegs s _ _ _,
    effect_keepsMemory_of_stores _ _ _ s ?_, ?_, ?_, ?_, ?_, effect_keepsFlags s rfl rfl _ _, ?_⟩ <;>
  simp [Shape.effect, storeAddresses, State.readByte_writeByte, State.topWord]

/-- Settles O58. -/
theorem noVisibleEffect : Obligations.NoVisibleEffect := by
  refine ⟨fun i s hi => ?one, fun i d8 s hi => ?two, fun s => ?hlt⟩
  case one =>
    obtain ⟨sh, rfl, hsh⟩ : ∃ sh : Shape, i = sh.instr 0 0 ∧ (sh = .nop ∨ sh = .daa ∨ ∃ u, sh = .undoc u) := by
      obtain rfl | rfl | ⟨u, rfl⟩ := hi
      · exact ⟨.nop, rfl, .inl rfl⟩
      · exact ⟨.daa, rfl, .inr (.inl rfl)⟩
      · exact ⟨.undoc u, rfl, .inr (.inr ⟨u, rfl⟩)⟩
    have heffect : ∀ lo hi, sh.effect lo hi s = s.opening sh.opcode 1 := by
      obtain rfl | rfl | ⟨u, rfl⟩ := hsh <;> simp [Shape.effect]
    refine ⟨_, completes_effect sh 0 0 s ?_, ?_⟩ <;> simp [heffect, KeepsRegs, KeepsFlags, KeepsMemory]
  case two =>
    obtain rfl | rfl := hi
    · refine ⟨_, completes_effect .inPort d8 0 s ?_, ?_⟩ <;> simp [Shape.effect, KeepsRegs, KeepsFlags, KeepsMemory]
    · refine ⟨_, completes_effect .outPort d8 0 s ?_, ?_⟩ <;> simp [Shape.effect, KeepsRegs, KeepsFlags, KeepsMemory]
  case hlt =>
    refine ⟨_, completes_effect .hlt 0 0 s ?_, ?_⟩ <;> simp [Shape.effect, KeepsRegs, KeepsFlags, KeepsMemory]

end Sys2Proof
end

section
/-! PROOFS. Results and completion of the arithmetic and logic families: the numbers that the ALU lemmas give, with the
frames of the shapes. -/

namespace Sys2Proof.Machine

/-! ### Flags of a result -/

theorem zeroOf_eq (v : Byte) : zeroOf v = decide (v = 0) := rfl

theorem zeroOf_toNat (v : Byte) : zeroOf v = decide (v.toNat = 0) := beq_eq_decide_toNat v 0

theorem signOf_eq (v : Byte) : signOf v = decide (128 ≤ v.toNat) := getLsbD_seven v

/-! ### Increments and decrements as numbers -/

theorem byte_sub_one_toNat (v : Byte) : (v - 1#8).toNat = (v.toNat + 255) % 256 := by
  rw [BitVec.toNat_sub]
  exact congrArg (· % 256) (Nat.add_comm ..)

theorem byte_add_one_beq_zero (v : Byte) : (v + 1#8 == 0#8) = decide (v.toNat = 255) := by
  rw [Bool.eq_iff_iff, beq_iff_eq, decide_eq_true_iff]
  bv_omega

theorem byte_sub_one_beq_ones (v : Byte) : (v - 1#8 == 255#8) = decide (v.toNat = 0) := by
  rw [Bool.eq_iff_iff, beq_iff_eq, decide_eq_true_iff]
  bv_omega

theorem addr_sub_one_toNat (v : Addr) : (v - 1#16).toNat = (v.toNat + 65535) % 65536 := by
  rw [BitVec.toNat_sub]
  exact congrArg (· % 65536) (Nat.add_comm ..)

theorem addr_add_one_beq_zero (v : Addr) : (v + 1#16 == 0#16) = decide (v.toNat = 65535) := by
  rw [Bool.eq_iff_iff, beq_iff_eq, decide_eq_true_iff]
  bv_omega

theorem addr_sub_one_beq_ones (v : Addr) : (v - 1#16 == 65535#16) = decide (v.toNat = 0) := by
  rw [Bool.eq_iff_iff, beq_iff_eq, decide_eq_true_iff]
  bv_omega

end Sys2Proof.Machine

namespace Sys2Proof

open Machine

/-! ### The accumulator operations -/

/-- The three forms of an operation do what the ALU does with A, the operand and CY, whatever CHAIN holds. -/
theorem accumulatorForms_of_alu {o : AccOp} (hcmp : o ≠ .cmp) {result : Byte → Byte → Bool → Nat}
    {carry : Byte → Byte → Bool → Bool} (hresult : ∀ a x cy ch, (alu o.alu a x cy ch).1.toNat = result a x cy)
    (hcarry : ∀ a x cy ch, (alu o.alu a x cy ch).2 = carry a x cy) : AccumulatorForms o result carry := by
  have hdest : (if o = .cmp then [] else [Reg.a]) = [.a] := if_neg hcmp
  refine ⟨fun src s => ⟨_, completes_effect (.accR o src) 0 0 s ?_, ⟨?_, ?_, ?_, ?_, hdest ▸ effect_keepsRegs s _ _ _, ?_, ?_,
      ?_, effect_keepsMemory_of_stores _ _ _ s ?_⟩, ?_⟩,
    fun s => ⟨_, completes_effect (.accM o) 0 0 s ?_, ⟨?_, ?_, ?_, ?_, hdest ▸ effect_keepsRegs s _ _ _, ?_, ?_, ?_,
      effect_keepsMemory_of_stores _ _ _ s ?_⟩, ?_⟩,
    fun d8 s => ⟨_, completes_effect (.accI o) d8 0 s ?_, ⟨?_, ?_, ?_, ?_, hdest ▸ effect_keepsRegs s _ _ _, ?_, ?_, ?_,
      effect_keepsMemory_of_stores _ _ _ s ?_⟩, ?_⟩⟩ <;>
  simp [Shape.effect, storeAddresses, hcmp, hresult, hcarry, zeroOf_eq, signOf_eq]

/-- Settles O44. -/
theorem additions : Obligations.Additions :=
  ⟨accumulatorForms_of_alu (by decide) alu_add_toNat alu_add_carry,
    accumulatorForms_of_alu (by decide) alu_adc_toNat alu_adc_carry⟩

/-- Settles O45. -/
theorem subtractions : Obligations.Subtractions :=
  ⟨accumulatorForms_of_alu (by decide) alu_sub_toNat alu_sub_borrow,
    accumulatorForms_of_alu (by decide) alu_sbb_toNat alu_sbb_borrow⟩

/-- Settles O46. -/
theorem logicOperations : Obligations.LogicOperations :=
  ⟨accumulatorForms_of_alu (by decide) (fun _ _ _ _ => BitVec.toNat_and _ _) fun _ _ _ _ => rfl,
    accumulatorForms_of_alu (by decide) (fun _ _ _ _ => BitVec.toNat_xor _ _) fun _ _ _ _ => rfl,
    accumulatorForms_of_alu (by decide) (fun _ _ _ _ => BitVec.toNat_or _ _) fun _ _ _ _ => rfl⟩

/-- The difference of two bytes is 0 where they are equal. -/
theorem zeroOf_alu_sub (a x : Byte) (cy ch : Bool) : zeroOf (alu .sub a x cy ch).1 = decide (a = x) := by
  rw [zeroOf_eq, decide_eq_decide, alu]
  exact sub_eq_zero

theorem signOf_alu_sub (a x : Byte) (cy ch : Bool) :
    signOf (alu .sub a x cy ch).1 = decide (128 ≤ (a.toNat + 256 - x.toNat) % 256) := by
  rw [signOf_eq, alu_sub_toNat]

/-- Settles O47. -/
theorem comparisons : Obligations.Comparisons := by
  refine ⟨fun src s => ⟨_, completes_effect (.accR .cmp src) 0 0 s ?_, ⟨?_, ?_, ?_, effect_keepsRegs s _ _ _, ?_, ?_, ?_,
      effect_keepsMemory_of_stores _ _ _ s ?_⟩, ?_⟩,
    fun s => ⟨_, completes_effect (.accM .cmp) 0 0 s ?_, ⟨?_, ?_, ?_, effect_keepsRegs s _ _ _, ?_, ?_, ?_,
      effect_keepsMemory_of_stores _ _ _ s ?_⟩, ?_⟩,
    fun d8 s => ⟨_, completes_effect (.accI .cmp) d8 0 s ?_, ⟨?_, ?_, ?_, effect_keepsRegs s _ _ _, ?_, ?_, ?_,
      effect_keepsMemory_of_stores _ _ _ s ?_⟩, ?_⟩⟩ <;>
  simp [Shape.effect, storeAddresses, AccOp.alu, alu_cmp_eq_sub, alu_sub_borrow, zeroOf_alu_sub, signOf_alu_sub]

/-! ### Increments, decrements and pairs -/

/-- Settles O48. -/
theorem byteIncrements : Obligations.ByteIncrements := by
  refine ⟨fun r s => ⟨_, completes_effect (.inrR r) 0 0 s ?_, ?_, ⟨?_, ?_, ?_⟩, effect_keepsRegs s _ _ _, ?_, ?_, ?_,
      ?_, effect_keepsMemory_of_stores _ _ _ s ?_⟩,
    fun r s => ⟨_, completes_effect (.dcrR r) 0 0 s ?_, ?_, ⟨?_, ?_, ?_⟩, effect_keepsRegs s _ _ _, ?_, ?_, ?_, ?_,
      effect_keepsMemory_of_stores _ _ _ s ?_⟩,
    fun s => ⟨_, completes_effect .inrM 0 0 s ?_, ?_, ⟨?_, ?_, ?_⟩, effect_keepsMemory_of_stores _ _ _ s ?_,
      effect_keepsRegs s _ _ _, ?_, ?_, ?_, ?_, ?_⟩,
    fun s => ⟨_, completes_effect .dcrM 0 0 s ?_, ?_, ⟨?_, ?_, ?_⟩, effect_keepsMemory_of_stores _ _ _ s ?_,
      effect_keepsRegs s _ _ _, ?_, ?_, ?_, ?_, ?_⟩⟩ <;>
  simp [Shape.effect, storeAddresses, State.readByte_writeByte, zeroOf_toNat, signOf_eq, byte_sub_one_toNat,
    byte_add_one_beq_zero, byte_sub_one_beq_ones, -BitVec.toNat_sub]

/-- Settles O49. -/
theorem pairArithmetic : Obligations.PairArithmetic := by
  refine ⟨fun p s => ⟨_, completes_effect (.inx p) 0 0 s ?_, ?_, fun q hq => by simp [Shape.effect, hq.symm],
      ?_, ?_, ?_, effect_keepsFlags s rfl rfl _ _, ?_, effect_keepsMemory_of_stores _ _ _ s ?_⟩,
    fun p s => ⟨_, completes_effect (.dcx p) 0 0 s ?_, ?_, fun q hq => by simp [Shape.effect, hq.symm],
      ?_, ?_, ?_, effect_keepsFlags s rfl rfl _ _, ?_, effect_keepsMemory_of_stores _ _ _ s ?_⟩,
    fun p s => ⟨_, completes_effect (.dad p) 0 0 s ?_, ?_, ?_, ?_, ?_, effect_keepsRegs s _ _ _, ?_, ?_, ?_, ?_, ?_,
      effect_keepsMemory_of_stores _ _ _ s ?_⟩⟩ <;>
  simp [Shape.effect, storeAddresses, setWidth_sum, getElem_sum, addr_sub_one_toNat, addr_add_one_beq_zero,
    addr_sub_one_beq_ones, -BitVec.toNat_sub]

end Sys2Proof
end

section
/-! PROOFS. Results and completion of the branches and the stack instructions, and what a return or a pop restores. -/

namespace Sys2Proof.Machine

/-! ### The stack -/

/-- SP + 2 wraps to 0 exactly from 0xFFFE. -/
theorem add_two_eq_zero_iff (v : Addr) : v + 2#16 = 0#16 ↔ v = 65534#16 := by bv_omega

theorem add_two_beq_zero (v : Addr) : (v + 2#16 == 0#16) = (v == 65534#16) := by
  rw [Bool.eq_iff_iff, beq_iff_eq, beq_iff_eq, add_two_eq_zero_iff]

theorem flagByte_toNat (s : State) : s.flagByte.toNat = 128 * s.sf.toNat + 64 * s.zf.toNat + s.cy.toNat := by
  rw [State.flagByte]
  cases s.sf <;> cases s.zf <;> cases s.cy <;> rfl

/-! ### Stack pairs -/

theorem pair_ne_sp (p : StackPair) : p.pair ≠ .sp := by cases p <;> decide

section pairs

variable (s : State) {p : Pair} (h : p ≠ .sp)
include h

theorem State.setPair_sp_of_ne (v : Addr) : (s.setPair p v).sp = s.sp := by
  cases p
  case sp => exact absurd rfl h
  all_goals rfl

theorem State.setSP_getPair_of_ne (v : Addr) : (s.setSP v).getPair p = s.getPair p := by
  cases p
  case sp => exact absurd rfl h
  all_goals rfl

end pairs

/-- What was pushed is on top of the stack. -/
theorem State.topWord_pushWord (s : State) (v : Addr) : (s.pushWord v).topWord = v := by
  have hone : s.sp - 2#16 + 1#16 = s.sp - 1#16 := by bv_omega
  simp [State.topWord, State.readWord, State.readByte_writeByte, hone]

@[simp] theorem State.fetched_topWord (s : State) (op : Byte) : (s.fetched op).topWord = s.topWord := rfl

/-- A state with the stack of a push has the pushed word on top. -/
theorem State.topWord_of_pushed {s t : State} {v : Addr} (hsp : t.sp = s.sp - 2#16) (hmem : t.mem = (s.pushWord v).mem) :
    t.topWord = v := by
  have hsame : t.sp = (s.pushWord v).sp := by simp [hsp]
  have hpushed : t.topWord = (s.pushWord v).topWord := by
    simp only [State.topWord, State.readWord, State.readByte, hsame, hmem]
  rw [hpushed, State.topWord_pushWord]

/-! ### What a return and a pop take from the top of the stack -/

section top

variable {s t : State} (hsp : t.sp = s.sp - 2#16)
include hsp

theorem effect_ret_of_top {v : Addr} (htop : t.topWord = v) :
    (Shape.ret.effect 0 0 t).pc = v ∧ (Shape.ret.effect 0 0 t).sp = s.sp := by
  simp [Shape.effect, htop, hsp]

theorem effect_pop_of_top (q : StackPair) {v : Addr} (htop : t.topWord = v) :
    ((Shape.pop q).effect 0 0 t).getPair q.pair = v ∧ ((Shape.pop q).effect 0 0 t).sp = s.sp := by
  simp [Shape.effect, State.setPair_sp_of_ne, State.setSP_getPair_of_ne, pair_ne_sp, htop, hsp]

theorem effect_popPsw_of_top (htop : t.topWord = pairOf s.a s.flagByte) :
    (Shape.popPsw.effect 0 0 t).a = s.a ∧ KeepsFlags s (Shape.popPsw.effect 0 0 t)
      ∧ (Shape.popPsw.effect 0 0 t).sp = s.sp := by
  have hcy := s.flagByte_carry
  have hzf := s.flagByte_zero
  have hsf := s.flagByte_sign
  simp only [Shape.effect, htop, hiByte_pairOf, loByte_pairOf, KeepsFlags]
  simp_all

end top

theorem restartVector_opcode_rst : ∀ n : BitVec 3, (restartVector (Shape.rst n).opcode).toNat = 8 * n.toNat := by decide

end Sys2Proof.Machine

namespace Sys2Proof

open Machine

/-- Settles O52. -/
theorem jumps : Obligations.Jumps := by
  refine ⟨forall_addr fun hi lo s => ?jmp, fun cc => forall_addr fun hi lo s => ?jcc, fun s => ?pchl⟩
  case jmp =>
    refine ⟨_, completes_effect .jmp lo hi s ?_, ?_, ?_, ?_, effect_keepsRegs s _ _ _, ?_,
      effect_keepsFlags s rfl rfl _ _, ?_, effect_keepsMemory_of_stores _ _ _ s ?_⟩ <;>
    simp [Shape.effect, storeAddresses]
  case jcc =>
    cases hcc : s.holds cc <;>
    refine ⟨_, completes_effect (.jcc cc) lo hi s ?_, ?_, ?_, ?_, effect_keepsRegs s _ _ _, ?_,
      effect_keepsFlags s rfl rfl _ _, ?_, effect_keepsMemory_of_stores _ _ _ s ?_⟩ <;>
    simp [Shape.effect, storeAddresses, hcc]
  case pchl =>
    refine ⟨_, completes_effect .pchl 0 0 s ?_, ?_, ?_, effect_keepsRegs s _ _ _, ?_,
      effect_keepsFlags s rfl rfl _ _, ?_, effect_keepsMemory_of_stores _ _ _ s ?_⟩ <;>
    simp [Shape.effect, storeAddresses]

/-- Settles O53. -/
theorem calls : Obligations.Calls := by
  refine ⟨forall_addr fun hi lo s => ?call, fun cc => forall_addr fun hi lo s => ?ccc, fun n s => ?rst⟩
  case call =>
    refine ⟨_, completes_effect .call lo hi s ?_, ?_, ?_, ⟨?_, ?_, ?_, effect_keepsMemory_of_stores _ _ _ s ?_⟩,
      effect_keepsRegs s _ _ _, effect_keepsFlags s rfl rfl _ _, ?_⟩ <;>
    simp [Shape.effect, storeAddresses, State.readByte_writeByte]
  case ccc =>
    cases hcc : s.holds cc
    · refine ⟨_, completes_effect (.ccc cc) lo hi s ?_, ⟨?_, ?_, ?_, effect_keepsMemory_of_stores _ _ _ s ?_⟩,
        effect_keepsRegs s _ _ _, effect_keepsFlags s rfl rfl _ _, ?_⟩ <;>
      simp [Shape.effect, storeAddresses, hcc]
    · refine ⟨_, completes_effect (.ccc cc) lo hi s ?_, ⟨?_, ?_, ?_, ?_, ?_, effect_keepsMemory_of_stores _ _ _ s ?_⟩,
        effect_keepsRegs s _ _ _, effect_keepsFlags s rfl rfl _ _, ?_⟩ <;>
      simp [Shape.effect, storeAddresses, hcc, State.readByte_writeByte]
  case rst =>
    refine ⟨_, completes_effect (.rst n) 0 0 s ?_, ?_, ?_, ⟨?_, ?_, ?_, effect_keepsMemory_of_stores _ _ _ s ?_⟩,
      effect_keepsRegs s _ _ _, effect_keepsFlags s rfl rfl _ _, ?_⟩ <;>
    simp [Shape.effect, storeAddresses, State.readByte_writeByte, restartVector_opcode_rst]

/-- Settles O54. -/
theorem returns : Obligations.Returns := by
  refine ⟨fun s => ?ret, fun cc s => ?rcc⟩
  case ret =>
    refine ⟨_, completes_effect .ret 0 0 s ?_, ?_, ?_, ?_, effect_keepsRegs s _ _ _,
      effect_keepsFlags s rfl rfl _ _, ?_, ?_, effect_keepsMemory_of_stores _ _ _ s ?_⟩ <;>
    simp [Shape.effect, storeAddresses, add_two_eq_zero_iff]
  case rcc =>
    cases hcc : s.holds cc <;>
    refine ⟨_, completes_effect (.rcc cc) 0 0 s ?_, ?_, effect_keepsRegs s _ _ _,
      effect_keepsFlags s rfl rfl _ _, ?_, ?_, effect_keepsMemory_of_stores _ _ _ s ?_⟩ <;>
    simp [Shape.effect, storeAddresses, hcc, add_two_beq_zero]

/-- Settles O55. -/
theorem pushes : Obligations.Pushes := by
  refine ⟨fun p s => ?push, fun s => ?psw⟩
  case push =>
    refine ⟨_, completes_effect (.push p) 0 0 s ?_, ?_, ?_, ?_, effect_keepsMemory_of_stores _ _ _ s ?_, ?_,
      effect_keepsRegs s _ _ _, effect_keepsFlags s rfl rfl _ _, ?_, ?_⟩ <;>
    simp [Shape.effect, storeAddresses, State.readByte_writeByte]
  case psw =>
    refine ⟨_, completes_effect .pushPsw 0 0 s ?_, s.flagByte, ⟨?_, ?_, ?_, effect_keepsMemory_of_stores _ _ _ s ?_, ?_,
      effect_keepsRegs s _ _ _, effect_keepsFlags s rfl rfl _ _, ?_, ?_⟩, flagByte_toNat s⟩ <;>
    simp [Shape.effect, storeAddresses, State.readByte_writeByte]

/-- Settles O56. -/
theorem pops : Obligations.Pops := by
  refine ⟨fun p s => ?pop, fun s => ?psw⟩
  case pop =>
    refine ⟨_, completes_effect (.pop p) 0 0 s ?_, ?_, ?_,
      fun q hq hsp => by simp [Shape.effect, State.setSP_getPair_of_ne, hsp, hq.symm], ?_,
      effect_keepsFlags s rfl rfl _ _, ?_, ?_, ?_, ?_,
      effect_keepsMemory_of_stores _ _ _ s ?_⟩ <;>
    simp [Shape.effect, storeAddresses, add_two_eq_zero_iff, State.setPair_sp_of_ne, State.setSP_getPair_of_ne, pair_ne_sp]
  case psw =>
    refine ⟨_, completes_effect .popPsw 0 0 s ?_, ?_, ?_, ?_, ?_, effect_keepsRegs s _ _ _, ?_, ?_, ?_, ?_,
      effect_keepsMemory_of_stores _ _ _ s ?_⟩ <;>
    simp [Shape.effect, storeAddresses, add_two_eq_zero_iff]

/-- Settles O38: the word on top after a call or a restart is the address that it pushed. -/
theorem callThenReturn : Obligations.CallThenReturn := by
  refine ⟨forall_addr fun hi lo s => ?call, fun n s => ?rst⟩
  case call =>
    obtain ⟨hpc, hsp⟩ := effect_ret_of_top (s := s) (t := Shape.call.effect lo hi s) (v := s.pc + 3#16)
      (by simp [Shape.effect]) (State.topWord_of_pushed (s := s) (by simp [Shape.effect]) (by simp [Shape.effect]))
    refine ⟨_, _, exec_instr .call lo hi s, exec_instr .ret 0 0 _, ?_, hpc, hsp, ?_, ?_, ?_⟩ <;>
    simp [Shape.effect, KeepsRegs, KeepsFlags]
  case rst =>
    obtain ⟨hpc, hsp⟩ := effect_ret_of_top (s := s) (t := (Shape.rst n).effect 0 0 s) (v := s.pc + 1#16)
      (by simp [Shape.effect]) (State.topWord_of_pushed (s := s) (by simp [Shape.effect]) (by simp [Shape.effect]))
    refine ⟨_, _, exec_instr (.rst n) 0 0 s, exec_instr .ret 0 0 _, ?_, hpc, hsp, ?_, ?_, ?_⟩ <;>
    simp [Shape.effect, KeepsRegs, KeepsFlags, restartVector_opcode_rst]

/-- Settles O39: the word on top after a push is what was pushed. -/
theorem pushThenPop : Obligations.PushThenPop := by
  refine ⟨fun p q s => ⟨_, _, exec_instr (.push p) 0 0 s, exec_instr (.pop q) 0 0 _, ?pair⟩,
    fun s x => ⟨_, _, exec_instr .pushPsw 0 0 s, exec_instr .popPsw 0 0 _, ?psw⟩⟩
  case pair =>
    exact effect_pop_of_top (by simp [Shape.effect]) q
      (State.topWord_of_pushed (s := s) (by simp [Shape.effect]) (by simp [Shape.effect]))
  case psw =>
    have hsp : (Shape.pushPsw.effect 0 0 s).sp = s.sp - 2#16 := by simp [Shape.effect]
    exact effect_popPsw_of_top (s := s) hsp (State.topWord_of_pushed (s := s) hsp rfl)

end Sys2Proof
end

section
/-! PROOFS. The validator (spec/43_sequencer_and_rom.md R198): the first opcode whose row does not begin with FETCH. -/

namespace Sys2Proof.Machine

open MicroOp

variable (rom : RomAddr → Word32)

theorem encode_fetch : fetch.encode = 0x000001F6 := by decide

theorem rowAligned_iff (op : Byte) : rowAligned rom op = true ↔ ∀ bank, rom (romAddress op bank 0) = 0x000001F6 := by
  simp [rowAligned, encode_fetch]

theorem validate_eq_none_iff : validate rom = none ↔ ∀ op : Byte, rowAligned rom op = true := by
  rw [validate, List.find?_eq_none]
  simp only [List.mem_range, Bool.not_eq_true', Bool.not_eq_false]
  refine ⟨fun h op => ?_, fun h k _ => h _⟩
  have hop := h op.toNat op.isLt
  rwa [BitVec.ofNat_toNat, BitVec.setWidth_eq] at hop

theorem validate_eq_some_iff (op : Byte) :
    validate rom = some op.toNat ↔
      rowAligned rom op = false ∧ ∀ p : Byte, p.toNat < op.toNat → rowAligned rom p = true := by
  rw [validate, List.find?_range_eq_some]
  simp only [Bool.not_eq_true', BitVec.ofNat_toNat, BitVec.setWidth_eq, List.mem_range, op.isLt, true_and,
    Bool.not_not]
  refine and_congr_right fun _ => ⟨fun h p hp => ?_, fun h k hk => ?_⟩
  · simpa using h p.toNat hp
  · have hlt := op.isLt
    refine h (BitVec.ofNat 8 k) ?_
    rw [BitVec.toNat_ofNat]
    omega

end Sys2Proof.Machine

namespace Sys2Proof

open Machine

/-- Settles O20: a row is aligned where both its banks begin with FETCH, and the search answers the first that is not. -/
theorem validatorReports : Obligations.ValidatorReports := by
  refine ⟨?store, fun rom => ?passes, fun rom op => ?reports⟩
  case store => exact (validate_eq_none_iff _).2 fun op => (rowAligned_iff _ op).2 (fetchAtStepZero op)
  case passes => simp only [validate_eq_none_iff, rowAligned_iff]
  case reports =>
    simp only [validate_eq_some_iff, rowAligned_iff, ← Bool.not_eq_true, not_forall]
    exact and_congr_right fun _ => forall_congr' fun p => forall_comm

end Sys2Proof
end

section
/-! PROOFS. The well-formedness checks of the control store (spec/30_encoding.md R69; spec/43_sequencer_and_rom.md R187, R191
to R195). Every check looks at a bank word by word, or at a word and the next; each word is a step of a micro-program with
its suffixes, or IDLE, so that the checks are those of the micro-programs, which are made shape by shape. -/

namespace Sys2Proof.Machine

open MicroOp

/-! ### Checks over a list, by index -/

section index

variable {α : Type} {p : α → Bool} {l : List α}

theorem all_of_getElem? (h : ∀ (k : Nat) (f : α), l[k]? = some f → p f = true) : l.all p = true := by
  rw [List.all_eq_true]
  intro f hf
  obtain ⟨k, hk⟩ := List.mem_iff_getElem?.1 hf
  exact h k f hk

theorem all_take_of_getElem? {n : Nat} (h : ∀ (k : Nat) (f : α), k < n → l[k]? = some f → p f = true) :
    (l.take n).all p = true := by
  refine all_of_getElem? fun k f hf => ?_
  rw [List.getElem?_take] at hf
  split at hf
  case isTrue hk => exact h k f hk hf
  case isFalse => cases hf

theorem all_adjacent_iff {p : α × α → Bool} :
    (l.zip (l.drop 1)).all p = true ↔
      ∀ (k : Nat) (f g : α), l[k]? = some f → l[k + 1]? = some g → p (f, g) = true := by
  refine ⟨fun h k f g hf hg => ?_, fun h => all_of_getElem? fun k fg hfg => ?_⟩
  · refine List.all_eq_true.1 h _ (List.mem_of_getElem? (i := k) (List.getElem?_zip_eq_some.2 ⟨hf, ?_⟩))
    rwa [List.getElem?_drop, Nat.add_comm]
  · obtain ⟨hf, hg⟩ := List.getElem?_zip_eq_some.1 hfg
    rw [List.getElem?_drop, Nat.add_comm] at hg
    exact h k _ _ hf hg

end index

/-! ### The checks on the micro-programs -/

theorem generated_microProgram (sh : Shape) (bank : Bool) : (microProgram sh bank).all ControlWord.generated = true := by
  cases sh with
  | movRR dst src => cases dst <;> cases src <;> rfl
  | accR o src => cases o <;> cases src <;> rfl
  | movRM r | movMR r | mviR r | inrR r | dcrR r => cases r <;> rfl
  | accM o | accI o => cases o <;> rfl
  | lxi p | inx p | dcx p | dad p | ldax p | stax p | push p | pop p => cases p <;> rfl
  | jcc | ccc | rcc => cases bank <;> rfl
  | _ => rfl

theorem chains_microProgram (sh : Shape) (bank : Bool) : BankCheck.chains (microProgram sh bank) = true := by
  cases sh with
  | accR o _ | accM o | accI o => cases o <;> rfl
  | inx p | dcx p => cases p <;> rfl
  | jcc | ccc | rcc => cases bank <;> rfl
  | _ => rfl

theorem pairsUncaptured_microProgram (sh : Shape) (bank : Bool) :
    BankCheck.pairsUncaptured (microProgram sh bank) = true := by
  cases sh with
  | accR o _ | accM o | accI o => cases o <;> rfl
  | inx p | dcx p => cases p <;> rfl
  | jcc | ccc | rcc => cases bank <;> rfl
  | _ => rfl

/-! ### The words of a bank -/

section bank

variable {op : Byte} {bank : Bool}

/-- A word of a bank is a step with its suffixes, or IDLE beyond the last step. -/
theorem word_of_getElem?_bankOf {k : Nat} {f : ControlWord} (h : (bankOf controlStore op bank)[k]? = some f) :
    (∃ u, (microProgram (shapeOf op) bank)[k]? = some u ∧ f = suffixed op bank k u)
      ∨ stepCount (shapeOf op) bank ≤ k ∧ f = idle := by
  rw [bankOf_controlStore, List.getElem?_append, length_bankProgram] at h
  split at h
  case isTrue =>
    rw [getElem?_bankProgram] at h
    obtain ⟨u, hu, rfl⟩ := Option.map_eq_some_iff.1 h
    exact .inl ⟨u, hu, rfl⟩
  case isFalse hk =>
    exact .inr ⟨by omega, List.eq_of_mem_replicate (List.mem_of_getElem? h)⟩

theorem suffixed_zero_fetch : suffixed op bank 0 fetch = fetch := by
  have hbounds := stepCount_bounds (shapeOf op) bank
  have hnotLast : 1 ≠ stepCount (shapeOf op) bank := by omega
  simp [suffixed, hnotLast, fetch]

theorem getElem?_zero_bankOf : (bankOf controlStore op bank)[0]? = some fetch := by
  have hbounds := stepCount_bounds (shapeOf op) bank
  rw [bankOf_controlStore, List.getElem?_append_left (by rw [length_bankProgram]; omega), getElem?_bankProgram,
    getElem?_zero_microProgram, Option.map_some, suffixed_zero_fetch]

/-- The suffixes make no difference to the checks on words. -/
theorem generated_suffixed {k : Nat} {u : ControlWord} (hu : (microProgram (shapeOf op) bank)[k]? = some u) :
    (suffixed op bank k u).generated = true := by
  have hgen := List.all_eq_true.1 (generated_microProgram (shapeOf op) bank) u (List.mem_of_getElem? hu)
  by_cases hk : k = 0
  · subst hk
    obtain rfl := Option.some.inj (hu.symm.trans (getElem?_zero_microProgram _ _))
    rwa [suffixed_zero_fetch]
  · have hdst : u.dst ≠ .ir := dst_ne_ir_of_step hu hk
    have hcsel : ((suffixed op bank k u).csel == .rstv) = (u.csel == .rstv) := by
      rw [Bool.eq_iff_iff, beq_iff_eq, beq_iff_eq, suffixed_csel_iff hu]
    have hfetch : WordCheck.irOnlyFetch (suffixed op bank k u) = WordCheck.irOnlyFetch u := by
      have hne : (u.dst != .ir) = true := bne_iff_ne.2 hdst
      have hne' : ((suffixed op bank k u).dst != .ir) = true := hne
      rw [WordCheck.irOnlyFetch, WordCheck.irOnlyFetch, hne, hne', Bool.true_or, Bool.true_or]
    have hvector : WordCheck.irOnlyVector (suffixed op bank k u) = WordCheck.irOnlyVector u :=
      congrArg ((u.src == .ir) == ·) hcsel
    have hsignals : WordCheck.signalsInert (suffixed op bank k u) = WordCheck.signalsInert u := by
      simp only [WordCheck.signalsInert, ControlWord.inert, ControlWord.unsignalled, bne, hcsel]
      rfl
    have heq : (suffixed op bank k u).generated = u.generated := by
      rw [ControlWord.generated, hfetch, hvector, hsignals]
      rfl
    rw [heq, hgen]

section fields

variable {p : ControlWord → Bool} (hsuffix : ∀ k u, p (suffixed op bank k u) = p u)
include hsuffix

theorem all_bankOf (hidle : p idle = true) (hprog : (microProgram (shapeOf op) bank).all p = true) :
    (bankOf controlStore op bank).all p = true := by
  refine all_of_getElem? fun k f hf => ?_
  obtain ⟨u, hu, rfl⟩ | ⟨-, rfl⟩ := word_of_getElem?_bankOf hf
  · rw [hsuffix]
    exact List.all_eq_true.1 hprog u (List.mem_of_getElem? hu)
  · exact hidle

theorem any_bankOf (hprog : (microProgram (shapeOf op) bank).any p = true) :
    (bankOf controlStore op bank).any p = true := by
  obtain ⟨u, hu, hpu⟩ := List.any_eq_true.1 hprog
  obtain ⟨k, hk⟩ := List.mem_iff_getElem?.1 hu
  have hmem : suffixed op bank k u ∈ bankProgram op bank :=
    List.mem_of_getElem? (i := k) (by rw [getElem?_bankProgram, hk, Option.map_some])
  refine List.any_eq_true.2 ⟨_, ?_, (hsuffix k u).trans hpu⟩
  rw [bankOf_controlStore]
  exact List.mem_append_left _ hmem

end fields

/-- What a check of a micro-program asks of neighbours, and of IDLE after any word, holds of neighbours in the bank. -/
theorem adjacent_bankOf {p : ControlWord × ControlWord → Bool}
    (hprog : ((microProgram (shapeOf op) bank).zip ((microProgram (shapeOf op) bank).drop 1)).all p = true)
    (hsuffix : ∀ j k u v, p (suffixed op bank j u, suffixed op bank k v) = p (u, v)) (hidle : ∀ f, p (f, idle) = true) :
    ((bankOf controlStore op bank).zip ((bankOf controlStore op bank).drop 1)).all p = true := by
  rw [all_adjacent_iff] at hprog ⊢
  intro k f g hf hg
  obtain ⟨v, hv, rfl⟩ | ⟨-, rfl⟩ := word_of_getElem?_bankOf hg
  · obtain ⟨u, hu, rfl⟩ | ⟨hk, -⟩ := word_of_getElem?_bankOf hf
    · rw [hsuffix]
      exact hprog k u v hu hv
    · have hlength := (List.getElem?_eq_some_iff.1 hv).1
      rw [length_microProgram] at hlength
      omega
  · exact hidle f

/-! ### The checks on a bank -/

theorem startsWithFetch_bankOf : BankCheck.startsWithFetch (bankOf controlStore op bank) = true := by
  rw [BankCheck.startsWithFetch, List.head?_eq_getElem?, getElem?_zero_bankOf, beq_self_eq_true]

theorem fetchOnce_bankOf : BankCheck.fetchOnce (bankOf controlStore op bank) = true := by
  refine all_of_getElem? fun k f hf => ?_
  rw [List.getElem?_drop] at hf
  obtain ⟨u, hu, rfl⟩ | ⟨-, rfl⟩ := word_of_getElem?_bankOf hf
  · have hdst := dst_ne_ir_of_step hu (by omega)
    exact bne_iff_ne.2 hdst
  · rfl

/-- R192, from the marker's place: before it no word is zero, after it every word is. -/
theorem oneLast_bankOf : BankCheck.oneLast (bankOf controlStore op bank) = true := by
  have hbounds := stepCount_bounds (shapeOf op) bank
  have hidx := findIdx_last_bankOf (op := op) rfl bank
  have hbefore : ((bankOf controlStore op bank).take ((bankOf controlStore op bank).findIdx (·.last))).all
      (fun f => f != {}) = true := by
    refine all_take_of_getElem? fun k f hk hf => ?_
    obtain ⟨u, hu, rfl⟩ | ⟨hpadding, -⟩ := word_of_getElem?_bankOf hf
    · have hinner := (wellBuilt_microProgram _ _).inner_of_getElem? hu (by rw [length_microProgram]; omega)
      exact bne_iff_ne.2 (suffixed_ne_idle hinner (by omega))
    · omega
  have hafter : ((bankOf controlStore op bank).drop ((bankOf controlStore op bank).findIdx (·.last) + 1)).all
      (fun f => f == {}) = true := by
    refine all_of_getElem? fun k f hf => ?_
    rw [List.getElem?_drop, hidx] at hf
    obtain ⟨u, hu, -⟩ | ⟨-, rfl⟩ := word_of_getElem?_bankOf hf
    · have hlength := (List.getElem?_eq_some_iff.1 hu).1
      rw [length_microProgram] at hlength
      omega
    · rfl
  have hplace : 1 ≤ (bankOf controlStore op bank).findIdx (·.last)
      ∧ (bankOf controlStore op bank).findIdx (·.last) < 32 := by
    omega
  simp only [BankCheck.oneLast, hbefore, hafter, length_bankOf, hplace, beq_self_eq_true, decide_true, Bool.and_self]

theorem chains_bankOf : BankCheck.chains (bankOf controlStore op bank) = true := by
  have hprog := chains_microProgram (shapeOf op) bank
  rw [BankCheck.chains, Bool.and_eq_true] at hprog ⊢
  obtain ⟨hfirst, hadjacent⟩ := hprog
  refine ⟨all_take_of_getElem? fun k f hk hf => ?_, adjacent_bankOf hadjacent (fun _ _ _ _ => rfl) fun _ => rfl⟩
  obtain ⟨u, hu, rfl⟩ | ⟨-, rfl⟩ := word_of_getElem?_bankOf hf
  · refine List.all_eq_true.1 hfirst u (List.mem_of_getElem? (i := k) ?_)
    rwa [List.getElem?_take, if_pos hk]
  · rfl

theorem pairsUncaptured_bankOf : BankCheck.pairsUncaptured (bankOf controlStore op bank) = true :=
  adjacent_bankOf (pairsUncaptured_microProgram _ _) (fun _ _ _ _ => rfl) fun _ => rfl

theorem generated_bankOf : (bankOf controlStore op bank).all ControlWord.generated = true := by
  refine all_of_getElem? fun k f hf => ?_
  obtain ⟨u, hu, rfl⟩ | ⟨-, rfl⟩ := word_of_getElem?_bankOf hf
  · exact generated_suffixed hu
  · decide

theorem wellFormedBank_bankOf : wellFormedBank (bankOf controlStore op bank) = true := by
  simp only [wellFormedBank, startsWithFetch_bankOf, fetchOnce_bankOf, oneLast_bankOf, chains_bankOf, pairsUncaptured_bankOf,
    generated_bankOf, Bool.and_self]

end bank

/-! ### The checks on a row -/

section row

variable (op : Byte)

theorem bankSplit_bankOf :
    RowCheck.bankSplit op (bankOf controlStore op false) (bankOf controlStore op true) = true := by
  cases hcond : isConditional op with
  | false =>
    have hnone := conditionOf_of_unconditional hcond
    have hbank : ∀ bank, bankOf controlStore op bank = _ := bankOf_of_unselected rfl (rowSelect_of_none hnone)
    have hcount : stepCount (shapeOf op) false = stepCount (shapeOf op) true := by
      rw [← length_microProgram, microProgram_bank_eq hnone, length_microProgram]
    rw [RowCheck.bankSplit, hcond, hbank, hbank, microProgram_bank_eq hnone, hcount, beq_self_eq_true]
    rfl
  | true =>
    have hne := bankOf_ne_of_conditional rfl (conditionOf_of_conditional hcond)
    rw [RowCheck.bankSplit, hcond, beq_eq_false_iff_ne.2 hne]
    rfl

/-- R187: the row's condition select is on every step from 1 on; RSTVEC, which has its own, is in a row without. -/
theorem selects_bankOf (bank : Bool) : BankCheck.selects (rowSelect (shapeOf op)) (bankOf controlStore op bank) = true := by
  rw [BankCheck.selects, findIdx_last_bankOf rfl]
  refine all_of_getElem? fun k f hf => ?_
  rw [List.getElem?_drop, List.getElem?_take] at hf
  split at hf
  case isFalse => cases hf
  case isTrue hk =>
    obtain ⟨u, hu, rfl⟩ | ⟨hpadding, -⟩ := word_of_getElem?_bankOf hf
    · have hfinal := (wellBuilt_microProgram _ _).final u (List.mem_of_getElem? hu)
      by_cases hsel : rowSelect (shapeOf op) = .none
      · obtain hnone | rfl := hfinal.csel
        · simp [suffixed, hsel, hnone]
        · simp [suffixed, hsel, rstvec]
      · simp [suffixed, hsel]
    · omega

theorem rowSelect_eq :
    rowSelect (shapeOf op) = if isConditional op then (Cond.ofField (opMid op)).csel else .none := by
  cases hcond : isConditional op with
  | false => exact rowSelect_of_none (conditionOf_of_unconditional hcond)
  | true => exact rowSelect_of_some (conditionOf_of_conditional hcond)

theorem keepsFlags_bankOf (h : isConditional op = true) (bank : Bool) :
    BankCheck.keepsFlags (bankOf controlStore op bank) = true :=
  all_bankOf (fun _ _ => rfl) rfl (keepsFlags_microProgram (conditionOf_of_conditional h) bank)

theorem shapeOf_dad : ∀ op : Byte, op &&& 0xCF = 0x09 → shapeOf op = .dad (Pair.ofField (opPair op)) := by decide

/-- R195 (c): the two sums of DAD capture carry and no word of it captures Z and S; CMA captures nothing. -/
theorem captures_bankOf (bank : Bool) : RowCheck.captures op (bankOf controlStore op bank) = true := by
  rw [RowCheck.captures, Bool.and_eq_true, Bool.or_eq_true, Bool.or_eq_true]
  refine ⟨?dad, ?cma⟩
  case dad =>
    by_cases hop : op &&& 0xCF = 0x09
    · refine .inr (Bool.and_eq_true_iff.2 ⟨any_bankOf (fun _ _ => rfl) ?_, all_bankOf (fun _ _ => rfl) rfl ?_⟩)
      · rw [shapeOf_dad op hop]
        rfl
      · rw [shapeOf_dad op hop]
        rfl
    · exact .inl (bne_iff_ne.2 hop)
  case cma =>
    by_cases hop : op = 0x2F
    · subst hop
      exact .inr (all_bankOf (fun _ _ => rfl) rfl rfl)
    · exact .inl (bne_iff_ne.2 hop)

end row

end Sys2Proof.Machine

namespace Sys2Proof

open Machine

/-- Settles O19: each check on the two banks of a row is one on its micro-programs. -/
theorem storeWellFormed : Obligations.StoreWellFormed := by
  intro op
  have hselect : RowCheck.conditionSelect op (bankOf controlStore op false) (bankOf controlStore op true) = true := by
    rw [RowCheck.conditionSelect, ← rowSelect_eq, selects_bankOf, selects_bankOf]
    rfl
  have hstable : RowCheck.conditionStable op (bankOf controlStore op false) (bankOf controlStore op true) = true := by
    cases hcond : isConditional op with
    | false => rw [RowCheck.conditionStable, hcond]; rfl
    | true => rw [RowCheck.conditionStable, hcond, keepsFlags_bankOf op hcond, keepsFlags_bankOf op hcond]; rfl
  simp only [wellFormedRow, wellFormedBank_bankOf, bankSplit_bankOf, hselect, hstable, captures_bankOf, Bool.and_self]

end Sys2Proof
end
